-- ==== Sys2Proof/Word.lean ====
section
/-! DEFINITION. The word types of the part: the byte of the link and the 32-bit tick and serial.
Conventions 2.1, 2.4 and 2.5 of spec/00_scope.md. -/

namespace Sys2Proof

/-- One byte on the link, and one field of a payload (R167). -/
abbrev Byte := BitVec 8

/-- A timestamp: the tick count modulo 2^32 (spec/00_scope.md, 2.1). -/
abbrev Tick := BitVec 32

/-- An attack serial, 0 to 4,294,967,295 (R119). -/
abbrev Serial := BitVec 32

end Sys2Proof
end

