-- ==== Sys2Proof/Syntax.lean ====
section
/-! DEFINITION. The commands the block takes: one constructor for each row of spec/opcode_table.json.
An operand is what the world outside hands over with the event (a line level, a converter reading, the matrix readings,
a byte). A request carries no operand: its fields are the payload of the frame that waits in the inbound queue (R173).
The time of an event is the part's own tick count, which State holds. -/

namespace Sys2Proof

/-- What began a hard reset (R158, R180): power was applied, or RESET went low. -/
inductive ResetCause
  | power
  | line
deriving DecidableEq, Repr

/-- One scan of the matrix as it was read (R1): for each of the 16 drive lines the twelve sense lines, a set bit b of word a
being CLOSED for key id 12 a + b. -/
abbrev Readings := Vector (BitVec 12) 16

/-- What SCAN_COMPLETION brings: the readings the scan took, and, where the sender lets a waiting WriteKeys be taken between two key
events of the scan (R75), the number of events it is taken after (log entry 21). -/
structure ScanResult where
  readings : Readings
  writeAfter : Option Nat
deriving DecidableEq, Repr

/-- The commands: operations and events of the part, in the table's order. -/
inductive Instr
  /-- HARD_RESET: power is applied or RESET goes low. -/
  | hardReset (cause : ResetCause)
  /-- RESET_RELEASE: reset is released, with the levels of LSEL1, LSEL0 and CUT at that tick. -/
  | resetRelease (lsel1 lsel0 cut : Bool)
  /-- SCAN_START -/
  | scanStart
  /-- SCAN_COMPLETION, with what the scan brings. -/
  | scanCompletion (scan : ScanResult)
  /-- SCAN_BOUNDARY -/
  | scanBoundary
  /-- REINITIALISATION_WINDOW_END -/
  | reinitialisationWindowEnd
  /-- SAMPLE, with the pressure difference in converter steps; the converter limits it to its span (R17). -/
  | sample (pressure : Int)
  /-- CALIBRATION_END -/
  | calibrationEnd
  /-- BEAT_EDGE -/
  | beatEdge
  /-- BAR_EDGE -/
  | barEdge
  /-- LAST_REAL_BEAT_ABSENT -/
  | lastRealBeatAbsent
  /-- DEADLINE -/
  | deadline
  /-- CUT_EDGE -/
  | cutEdge
  /-- SETTLE_EXPIRY of the section named. -/
  | settleExpiry (number : Nat)
  /-- RELEASE_EXPIRY of the voice named. -/
  | releaseExpiry (voice : Nat)
  /-- BYTE_ARRIVAL: the byte, and whether its stop bit read low (a framing fault, R166). -/
  | byteArrival (value : Byte) (stopLow : Bool)
  /-- GAP -/
  | gap
  /-- FRAME_COMPLETE -/
  | frameComplete
  /-- UNKNOWN_REQUEST -/
  | unknownRequest
  /-- SETSCAN -/
  | setScan
  /-- SETBELLOWS -/
  | setBellows
  /-- CALIBRATE -/
  | calibrate
  /-- SETEXPRESSION -/
  | setExpression
  /-- SETCLOCK -/
  | setClock
  /-- WRITEKEYS -/
  | writeKeys
  /-- READKEYS -/
  | readKeys
  /-- WRITESECTION -/
  | writeSection
  /-- READSECTION -/
  | readSection
  /-- SECTIONREADY -/
  | sectionReady
  /-- CUT_REQUEST -/
  | cutRequest
  /-- RESUME -/
  | resume
  /-- SELECT_PRESET -/
  | selectPreset
  /-- CANCELPENDING -/
  | cancelPending
  /-- WRITELAYER -/
  | writeLayer
  /-- READLAYER -/
  | readLayer
  /-- SETPRESETFLAGS -/
  | setPresetFlags
  /-- STATUS -/
  | status
  /-- CLEARFLAGS -/
  | clearFlags
  /-- RESET, the soft reset request. -/
  | reset
  /-- TRANSMIT -/
  | transmit
  /-- FRAME_SENT -/
  | frameSent
  /-- CUT_LINE_SAMPLE, with the level of the CUT line. -/
  | cutLineSample (high : Bool)
  /-- CLICK_LINE_SAMPLE, with the levels of BEAT and BAR. -/
  | clickLineSample (beat bar : Bool)
deriving DecidableEq, Repr

end Sys2Proof
end

