-- ==== Sys2Proof/Decode.lean ====
section
/-! DEFINITION. The commands that a word spells by the table's bits. No row of spec/opcode_table.json gives bits
(every row's "fields" is empty and none has "fixed"), so no word spells a command; the codes of the link's frames are not a
command encoding and are read in Machine/Link.lean and Machine/Operands.lean. -/

namespace Sys2Proof

/-- The command a word of nbits bits spells: none, since the table gives no row any bits. -/
def decodeTableWord (_nbits _w : Nat) : Option Instr := none

end Sys2Proof
end

