-- ==== Sys2Proof/Config.lean ====
section
/-! DEFINITION. What the spec leaves open: the free values of the model, constants without a body, of which
nothing can be proved. -/

namespace Sys2Proof.Config

/-- DESIGN CHOICE (log entry 6). "The oldest voice" is the one with the smallest attack serial (R119), and the spec does not
say which is meant when two voices carry the SAME serial, which can come about only after the counter has wrapped.
The free value answers, for two voice indices with equal serials, whether the first counts as the older. -/
opaque olderAtTie : Nat → Nat → Bool

/-- DESIGN CHOICE (log entry 5). Where several events of the part fall at one tick, "either may be taken first" (R23, R61, R62, R88,
R93, R113, R114, R134, R139, R155, R172, R177, R188). A sender settles the order by the order of its commands; when the queue is
empty and the part takes its own events, the free value picks, for each pick in turn, which of the events due is taken next. -/
opaque pick : Nat → Nat

end Sys2Proof.Config
end

