-- ==== Sys2Proof/Machine/Types.lean ====
section
/-! DEFINITION. The kinds of data the eleven blocks hold (spec/00_scope.md, 1.3), one structure for each block, with the
names the chapters use. -/

namespace Sys2Proof.Machine

/-! ## Names shared by the blocks -/

/-- The two bellows directions. The committed direction is an `Option Side`, none being NONE (R20 to R22). -/
inductive Side
  | push
  | pull
deriving DecidableEq, Repr

/-- The class of a key (R69, R70). -/
inductive KeyClass
  | unused
  | treble
  | bassSingle
  | bassChord
  | register
deriving DecidableEq, Repr

/-- The event a waiting registration change waits for (R107, section 7.5). -/
inductive Trigger
  | reversal
  | beat
  | bar
deriving DecidableEq, Repr

/-- The condition of a selection: IMMEDIATE, or NEXT_ followed by its trigger (R69, R108). Only a trigger can stand in the
pending slot (R107). -/
inductive Condition
  | immediate
  | next (trigger : Trigger)
deriving DecidableEq, Repr

/-- Who made a selection (R106). -/
inductive Origin
  | request
  | switch
deriving DecidableEq, Repr

/-- What becomes of a transposed pitch outside the section's range (R97). -/
inductive RangeMode
  | fold
  | drop
deriving DecidableEq, Repr

/-- The causes of a cut (R91); the cut record's cause NONE is `Option.none`. -/
inductive CutCause
  | line
  | request
deriving DecidableEq, Repr

/-- The clock states (section 4.3). -/
inductive ClockPhase
  | stopped
  | starting
  | running
  | coasting
deriving DecidableEq, Repr

/-- The sticky flags (R185), in the order of the sticky flag byte (R181). -/
inductive StickyFlag
  | clip
  | frame
  | length
  | gap
  | check
  | overrun
  | dropAttack
  | keyFull
deriving DecidableEq, Repr

/-! ## Key Scanner (KSC) -/

/-- One debounce filter (section 1.2): the debounced state, `down` meaning DOWN, and the agreement count. -/
structure KeyFilter where
  down : Bool
  count : Nat
deriving DecidableEq, Repr

/-- The Key Scanner's state (R2, R3, R10 to R13, R15). -/
structure Scanner where
  /-- The 192 debounce filters. -/
  filters : Vector KeyFilter 192
  /-- The scan period in force, in ticks. -/
  period : Nat
  /-- The agreement number N in force. -/
  agreement : Nat
  /-- The recorded scan period (R10). -/
  recPeriod : Nat
  /-- The recorded N (R10). -/
  recAgreement : Nat
  /-- The re-initialisation window: none when closed, else the scans it has still to cover (R12). -/
  window : Option Nat
  /-- Whether a scan is in progress. -/
  scanning : Bool
  /-- The start of the last started scan, none before the first (R2, R11). -/
  lastStart : Option Tick
deriving DecidableEq, Repr

/-! ## Instrument Map (IMAP) -/

/-- One key entry (R69). -/
structure KeyEntry where
  cls : KeyClass
  push : List Nat
  pull : List Nat
  preset : Fin 16
  condition : Condition
deriving DecidableEq, Repr

/-! ## Bellows Unit (BLU) -/

/-- The sensor state (R25, R27). -/
inductive SensorState
  | ok
  | fault
deriving DecidableEq, Repr

/-- A calibration's collection in progress (R30, R31). -/
structure Collection where
  count : Nat
  sum : Int
  minimum : Option Int
  maximum : Option Int
  /-- The sensor state was SENSOR_FAULT when the request was taken (R30). -/
  faultAtStart : Bool
  /-- A fault began during the collection (R31). -/
  faultDuring : Bool
deriving DecidableEq, Repr

/-- The Bellows Unit's state (table at the head of chapter 2). -/
structure Bellows where
  offset : Int
  hysteresis : Nat
  deadTime : Nat
  direction : Option Side
  pushRun : Nat
  pullRun : Nat
  sensor : SensorState
  rail : Nat
  recovery : Nat
  collection : Option Collection
  /-- The tick at which the next sample completes (R17). -/
  nextSample : Tick
deriving DecidableEq, Repr

/-! ## Expression Unit (EXU) -/

/-- What the Expression Unit keeps for each section (table at the head of chapter 3). -/
structure Dynamics where
  /-- The curve in use, y0 to y8. -/
  curve : Vector Nat 9
  /-- The boost in use. -/
  boost : Nat
  /-- The current dynamic level d. -/
  level : Nat
  /-- The last reported level. -/
  last : Nat
deriving DecidableEq, Repr

/-- The Expression Unit's state. -/
structure Expression where
  /-- z -/
  deadZone : Nat
  /-- g -/
  gain : Nat
  /-- k -/
  smoothing : Nat
  /-- A -/
  accentThreshold : Nat
  /-- T -/
  accentWindow : Nat
  /-- S -/
  reportStep : Nat
  /-- f -/
  force : Nat
  /-- e -/
  smoothed : Nat
  /-- The forces of the last 8 ordinary samples, oldest first. -/
  history : List Nat
  /-- Samples left in the accent window. -/
  accentCount : Nat
  sections : Vector Dynamics 8
deriving DecidableEq, Repr

/-! ## Line filters (BEAT, BAR, CUT) -/

/-- An edge filter (R56, R90). Two fields are the model's own (log entry 3). -/
structure LineFilter where
  armed : Bool
  high : Nat
  /-- A rising edge was accepted by a line sample, and the command that takes it (BEAT_EDGE, BAR_EDGE, CUT_EDGE) has not come
  yet. -/
  accepted : Bool
  /-- The tick of the line's last sample, none before the first: a line is sampled once per tick. -/
  sampledAt : Option Tick
deriving DecidableEq, Repr

/-! ## Tempo Clock (TCK) -/

/-- The Tempo Clock's state (table at the head of chapter 4). -/
structure Clock where
  beatLine : LineFilter
  barLine : LineFilter
  phase : ClockPhase
  lastReal : Option Tick
  /-- P -/
  period : Nat
  reference : Tick
  deadline : Option Tick
  synthetic : Nat
  barMark : Bool
  beatInBar : Nat
  /-- B -/
  beatsPerBar : Nat
  /-- C -/
  coast : Nat
deriving DecidableEq, Repr

/-! ## Section Control (SCN) -/

/-- A section record (R80). -/
structure SectionRecord where
  polyphony : Nat
  lo : Nat
  hi : Nat
  /-- In milliseconds. -/
  releaseHold : Nat
  /-- In ticks. -/
  alignment : Nat
  boost : Nat
  curve : Vector Nat 9
deriving DecidableEq, Repr

/-- The readiness of a section, SETTLING with its settle expiry (R85). -/
inductive Readiness
  | off
  | settling (expiry : Tick)
  | ready
deriving DecidableEq, Repr

/-- Section Control's state (R80, R85, section 6.4). -/
structure SectionControl where
  records : Vector SectionRecord 8
  readiness : Vector Readiness 8
  /-- The cut state, true being CUT. -/
  cut : Bool
  cutLine : LineFilter
  /-- The last CUT sample, true being high. -/
  lastCut : Bool
  /-- The cut record's cause. -/
  cutCause : Option CutCause
  /-- The cut record's voices ended. -/
  cutVoices : Nat
deriving DecidableEq, Repr

/-! ## Registration Unit (REG) -/

/-- A layer record (R97); bits 0, 1 and 2 of the mask are TREBLE, BASS_SINGLE and BASS_CHORD (R181). -/
structure Layer where
  enabled : Bool
  mask : BitVec 3
  lo : Nat
  hi : Nat
  transpose : Int
  sect : Fin 8
  mode : RangeMode
  reattack : Bool
  accent : Bool
deriving DecidableEq, Repr

/-- A preset (R97). -/
structure Preset where
  layers : Vector Layer 8
  revoice : Bool
deriving DecidableEq, Repr

/-- A waiting registration change (R107). -/
structure Change where
  preset : Fin 16
  trigger : Trigger
  origin : Origin
deriving DecidableEq, Repr

/-- The Registration Unit's state (table at the head of chapter 7). -/
structure Registration where
  store : Vector Preset 16
  active : Vector Layer 8
  activePreset : Option (Fin 16)
  slot : Option Change
deriving DecidableEq, Repr

/-! ## Voice Allocator (VAL) -/

/-- The state of a voice, RELEASING with its release expiry (R118). -/
inductive VoiceState
  | free
  | sounding
  | releasing (expiry : Tick)
deriving DecidableEq, Repr

/-- A voice table entry (R118). -/
structure Voice where
  state : VoiceState
  sect : Fin 8
  pitch : Nat
  holders : Nat
  serial : Serial
deriving DecidableEq, Repr

/-- One pair of a voice list: the voice, and the layer that placed it for the key (R120). -/
structure Pair where
  voice : Fin 48
  layer : Fin 8
deriving DecidableEq, Repr

/-- A held-key entry (R120). -/
structure HeldKey where
  key : Fin 192
  side : Side
  pairs : List Pair
deriving DecidableEq, Repr

/-- The Voice Allocator's state; the held-key table stands in ascending key id. -/
structure Allocator where
  voices : Vector Voice 48
  held : List HeldKey
  /-- The attack serial counter (R119). -/
  serial : Serial
deriving DecidableEq, Repr

/-! ## Event Queue (EVQ) -/

/-- The cause of a NoteOn (R162). -/
inductive NoteOnCause
  | press
  | reversal
  | revoice
  | retrigger
deriving DecidableEq, Repr

/-- The reason of a NoteOff (R162); `sectionOff` is SECTION. -/
inductive NoteOffReason
  | release
  | reversal
  | revoice
  | stolen
  | sectionOff
  | limit
deriving DecidableEq, Repr

/-- The cause of an AllOff (R164). -/
inductive AllOffCause
  | line
  | request
  | reset
deriving DecidableEq, Repr

/-- The cause of a Started report (R165). -/
inductive StartedCause
  | power
  | line
  | soft
deriving DecidableEq, Repr

/-- The flag a Fault report names (R165). -/
inductive FaultName
  | sticky (flag : StickyFlag)
  | sensor
deriving DecidableEq, Repr

/-- A report with the fields of its kind (R147, R162 to R165). -/
inductive Report
  | noteOn (sect : Fin 8) (pitch level : Nat) (cause : NoteOnCause)
  | noteOff (sect : Fin 8) (pitch : Nat) (reason : NoteOffReason)
  | dynamic (sect : Fin 8) (level : Nat)
  | allOff (cause : AllOffCause)
  | reversal (side : Side)
  | registration (preset : Fin 16) (origin : Origin) (condition : Condition)
  | clockState (phase : ClockPhase) (period : Nat)
  | fault (name : FaultName)
  | started (cause : StartedCause)
deriving DecidableEq, Repr

/-- A queue entry: the report, its due tick and its place in creation order (R147). -/
structure Entry where
  report : Report
  due : Tick
  order : Nat
deriving DecidableEq, Repr

/-- The Event Queue's state. -/
structure EventQueue where
  entries : List Entry
  lastDue : Vector Tick 8
  /-- Whether a section's last-due has not come yet: the model's own, so that a last-due that has come plays no part however long
  ago that was (R149; log entry 22). -/
  ahead : Vector Bool 8
  /-- The creation order the next report gets, counted since the last reset (R147). -/
  made : Nat
deriving DecidableEq, Repr

/-! ## Link Controller (LNK) -/

/-- The line rates (R166). -/
inductive LineRate
  | k500
  | m1
  | m2
  | m3
deriving DecidableEq, Repr

/-- A frame without its SYNC, LEN and check, which follow from it (R167). -/
structure Frame where
  kind : Byte
  tag : Byte
  payload : List Byte
deriving DecidableEq, Repr

/-- The receiver (R170): HUNTING, or ASSEMBLING with the held bytes and the gap time. -/
inductive Receiver
  | hunting
  | assembling (bytes : List Byte) (gapTime : Tick)
deriving DecidableEq, Repr

/-- The request handler (R173); IN_FLIGHT keeps the TAG of the Calibrate it will answer (R175, R176). -/
inductive Handler
  | idle
  | replyPending
  | inFlight (tag : Byte)
deriving DecidableEq, Repr

/-- The transmitter (R177): IDLE, or SENDING the bytes of one whole frame on LTX (R167). -/
inductive Transmitter
  | idle
  | sending (bytes : List Byte)
deriving DecidableEq, Repr

/-- The Link Controller's state (table at the head of chapter 10). -/
structure Link where
  rate : LineRate
  receiver : Receiver
  inbound : List Frame
  handler : Handler
  slot : Option Frame
  transmitter : Transmitter
  /-- The report sequence, the TAG of the next report frame. -/
  sequence : Byte
deriving DecidableEq, Repr

/-! ## Status Unit (STU) -/

/-- The Status Unit's state: the sticky flag byte (R181) and the six counters (R185). The live flags SENSOR and CUT are the
sensor state and the cut state themselves (R185), and are read from there. -/
structure StatusUnit where
  sticky : Byte
  frameCount : Nat
  lengthCount : Nat
  gapCount : Nat
  checkCount : Nat
  overrunCount : Nat
  dropAttackCount : Nat
deriving DecidableEq, Repr

end Sys2Proof.Machine
end

