-- ==== Sys2Proof/Machine/ResetValues.lean ====
section
/-! DEFINITION. The value each block takes at a hard reset, from the reset tables of the chapters
(R15, R35, R54, R67, R79, R80, R95, R96, R116, R144, R158, R180, R189). -/

namespace Sys2Proof.Machine

/-- The hard reset values of the Key Scanner (R15): the first scan is due at release. -/
def hardScanner : Scanner where
  filters := Vector.replicate 192 { down := false, count := 0 }
  period := 10
  agreement := 3
  recPeriod := 10
  recAgreement := 3
  window := none
  scanning := false
  lastStart := none

/-- A key entry after a hard reset (R79). -/
def hardKeyEntry : KeyEntry where
  cls := .unused
  push := []
  pull := []
  preset := 0
  condition := .immediate

/-- The hard reset values of the map (R79). -/
def hardMap : Vector KeyEntry 192 := Vector.replicate 192 hardKeyEntry

/-- The hard reset values of the Bellows Unit (R35): the first sample comes 5 ticks after release. -/
def hardBellows : Bellows where
  offset := 0
  hysteresis := 24
  deadTime := 4
  direction := none
  pushRun := 0
  pullRun := 0
  sensor := .ok
  rail := 0
  recovery := 0
  collection := none
  nextSample := 5

/-- The default curve of a section record (R80). -/
def defaultCurve : Vector Nat 9 := #v[0, 32, 64, 96, 128, 160, 192, 224, 255]

/-- The hard reset values of the Expression Unit (R54). -/
def hardExpression : Expression where
  deadZone := 16
  gain := 256
  smoothing := 3
  accentThreshold := 0
  accentWindow := 40
  reportStep := 4
  force := 0
  smoothed := 0
  history := [0, 0, 0, 0, 0, 0, 0, 0]
  accentCount := 0
  sections := Vector.replicate 8 { curve := defaultCurve, boost := 0, level := 0, last := 0 }

/-- A line filter after a hard reset, before its first sample (R67, R95). -/
def hardFilter : LineFilter where
  armed := false
  high := 0
  accepted := false
  sampledAt := none

/-- The CUT filter after its first sample, which is the one taken at the tick of release (R90, R96): a low sample arms it, and a high
one leaves it unarmed. -/
def releaseFilter (cutHigh : Bool) : LineFilter where
  armed := !cutHigh
  high := 0
  accepted := false
  sampledAt := some 0

/-- The hard reset values of the Tempo Clock (R67). -/
def hardClock : Clock where
  beatLine := hardFilter
  barLine := hardFilter
  phase := .stopped
  lastReal := none
  period := 0
  reference := 0
  deadline := none
  synthetic := 0
  barMark := false
  beatInBar := 0
  beatsPerBar := 4
  coast := 4

/-- A section record after a hard reset (R80). -/
def hardRecord : SectionRecord where
  polyphony := 8
  lo := 0
  hi := 127
  releaseHold := 0
  alignment := 0
  boost := 0
  curve := defaultCurve

/-- The hard reset values of Section Control with the CUT line at the level given (R95, R96): a line high at release puts the
part in CUT with cause LINE and 0 voices. That level is the line's first sample, and the filter has taken it (R90). -/
def hardSections (cutHigh : Bool) : SectionControl where
  records := Vector.replicate 8 hardRecord
  readiness := Vector.replicate 8 .off
  cut := cutHigh
  cutLine := releaseFilter cutHigh
  lastCut := cutHigh
  cutCause := if cutHigh then some .line else none
  cutVoices := 0

/-- A layer record after a hard reset (R116). -/
def hardLayer : Layer where
  enabled := false
  mask := 0
  lo := 0
  hi := 0
  transpose := 0
  sect := 0
  mode := .fold
  reattack := false
  accent := false

/-- The hard reset values of the Registration Unit (R116). -/
def hardRegistration : Registration where
  store := Vector.replicate 16 { layers := Vector.replicate 8 hardLayer, revoice := false }
  active := Vector.replicate 8 hardLayer
  activePreset := none
  slot := none

/-- The hard reset values of the Voice Allocator (R144). The section, pitch and serial of a voice that has never sounded take
part in no rule (R118); the model holds 0 there (DESIGN CHOICE, log entry 2). -/
def hardAllocator : Allocator where
  voices := Vector.replicate 48 { state := .free, sect := 0, pitch := 0, holders := 0, serial := 0 }
  held := []
  serial := 0

/-- The cause the Started report names after a hard reset (R158). -/
def startedCauseOf : ResetCause → StartedCause
  | .power => .power
  | .line => .line

/-- The hard reset values of the Event Queue (R158): the Started entry, due at tick 0, the first made. -/
def hardQueue (cause : ResetCause) : EventQueue where
  entries := [{ report := .started (startedCauseOf cause), due := 0, order := 0 }]
  lastDue := Vector.replicate 8 0
  ahead := Vector.replicate 8 false
  made := 1

/-- The line rate that LSEL1 and LSEL0 choose (R166). -/
def rateOf (lsel1 lsel0 : Bool) : LineRate :=
  match lsel1, lsel0 with
  | false, false => .k500
  | false, true => .m1
  | true, false => .m2
  | true, true => .m3

/-- The hard reset values of the Link Controller (R180). -/
def hardLink (rate : LineRate) : Link where
  rate := rate
  receiver := .hunting
  inbound := []
  handler := .idle
  slot := none
  transmitter := .idle
  sequence := 0

/-- The hard reset values of the Status Unit (R189). -/
def hardStatus : StatusUnit where
  sticky := 0
  frameCount := 0
  lengthCount := 0
  gapCount := 0
  checkCount := 0
  overrunCount := 0
  dropAttackCount := 0

end Sys2Proof.Machine
end

