-- ==== Sys2Proof/Machine/State.lean ====
section
/-! DEFINITION. The state of the block: the tick count, the RESET condition, the eleven blocks of spec/00_scope.md 1.3, and the
queue of commands that wait. -/

namespace Sys2Proof.Machine

/-- The whole state of the OA-248. -/
structure State where
  /-- The tick count modulo 2^32 (spec/00_scope.md, 2.1). -/
  tick : Tick
  /-- none while the part runs; while RESET is low or power has just come, what began that hard reset (R158, R180). -/
  inReset : Option ResetCause
  /-- Key Scanner. -/
  ksc : Scanner
  /-- Instrument Map: the 192 key entries. -/
  imap : Vector KeyEntry 192
  /-- Bellows Unit. -/
  blu : Bellows
  /-- Expression Unit. -/
  exu : Expression
  /-- Tempo Clock. -/
  tck : Clock
  /-- Section Control. -/
  scn : SectionControl
  /-- Registration Unit. -/
  reg : Registration
  /-- Voice Allocator. -/
  val : Allocator
  /-- Event Queue. -/
  evq : EventQueue
  /-- Link Controller. -/
  lnk : Link
  /-- Status Unit. -/
  stu : StatusUnit
  /-- How many times the part has picked among its own due events: the model's own counter, which only feeds the free value
  `Config.pick` (log entry 5). -/
  picks : Nat
  /-- The commands that wait, first in, first out: the model's own queue, no part of the OA-248. -/
  pending : List Instr
deriving DecidableEq, Repr

/-- The faults a step can stop with: none. The spec gives every operation and event an effect, so the type has no
constructor and no run of the model ends in a fault (safe). -/
inductive Fault
deriving DecidableEq, Repr

/-- The refusals a step can answer with. -/
inductive Refusal
  /-- The command has no meaning yet. No arm of `exec` answers with it: every row of the table is modelled (safe). -/
  | notModelled (mnemonic : String)
deriving DecidableEq, Repr

/-- The part at the tick of release of a hard reset (R158, R180): every block at its hard reset value, the time base at 0. -/
def State.released (cause : ResetCause) (rate : LineRate) (cutHigh : Bool) (picks : Nat) (pending : List Instr) :
    State where
  tick := 0
  inReset := none
  ksc := hardScanner
  imap := hardMap
  blu := hardBellows
  exu := hardExpression
  tck := hardClock
  scn := hardSections cutHigh
  reg := hardRegistration
  val := hardAllocator
  evq := hardQueue cause
  lnk := hardLink rate
  stu := hardStatus
  picks := picks
  pending := pending

/-- The machine right after reset: release of a power-on reset. The levels of the pins sampled at that tick are the world's; the
model takes LSEL1, LSEL0 and CUT as low (DESIGN CHOICE, log entry 1). RESET_RELEASE takes them as operands. -/
def State.reset : State := State.released .power .k500 false 0 []

end Sys2Proof.Machine
end

