-- ==== Sys2Proof/Machine/Ops.lean ====
section
/-! DEFINITION. The shared operations: one update for each block, wrap-aware time (spec/00_scope.md 2.1), line filters, the counts
the admission test reads (R152), and the Event Queue's placing of reports (R147 to R154). -/

namespace Sys2Proof.Machine

/-! ## Block updates -/

/-- `s` with the block `ksc` replaced. -/
def State.withKsc (s : State) (x : Scanner) : State := { s with ksc := x }

/-- `s` with the block `imap` replaced. -/
def State.withImap (s : State) (x : Vector KeyEntry 192) : State := { s with imap := x }

/-- `s` with the block `blu` replaced. -/
def State.withBlu (s : State) (x : Bellows) : State := { s with blu := x }

/-- `s` with the block `exu` replaced. -/
def State.withExu (s : State) (x : Expression) : State := { s with exu := x }

/-- `s` with the block `tck` replaced. -/
def State.withTck (s : State) (x : Clock) : State := { s with tck := x }

/-- `s` with the block `scn` replaced. -/
def State.withScn (s : State) (x : SectionControl) : State := { s with scn := x }

/-- `s` with the block `reg` replaced. -/
def State.withReg (s : State) (x : Registration) : State := { s with reg := x }

/-- `s` with the block `val` replaced. -/
def State.withVal (s : State) (x : Allocator) : State := { s with val := x }

/-- `s` with the block `evq` replaced. -/
def State.withEvq (s : State) (x : EventQueue) : State := { s with evq := x }

/-- `s` with the block `lnk` replaced. -/
def State.withLnk (s : State) (x : Link) : State := { s with lnk := x }

/-- `s` with the block `stu` replaced. -/
def State.withStu (s : State) (x : StatusUnit) : State := { s with stu := x }

/-- What a command answers: every command of this part runs, so the outcome is always a next state. -/
abbrev Result := Host.Outcome State Fault Refusal

/-- Whether the part runs: RESET is high (R2, R17, R56, R180). While it is low no event of the part comes about. -/
def State.running (s : State) : Bool := s.inReset.isNone

/-- The effect of a command on a running part; while RESET is low a command has none (R2, R17, R56, R180). -/
def whileRunning (effect : State → State) (s : State) : Result :=
  .next (if s.running then effect s else s)

/-! ## Time -/

/-- The wrap-aware difference of two timestamps, later minus earlier, from -2^31 to 2^31 - 1 (spec/00_scope.md, 2.1). -/
def wrapDiff (later earlier : Tick) : Int := (later - earlier).toInt

/-- Whether a deadline has come: the wrap-aware difference of now minus the deadline is zero or positive
(spec/00_scope.md, 2.1). -/
def hasCome (now deadline : Tick) : Bool := decide (0 ≤ wrapDiff now deadline)

/-- Ticks in a number of milliseconds: one millisecond is 10 ticks (spec/00_scope.md, 2.1). -/
def ticksOfMs (ms : Nat) : Nat := ms * 10

/-! ## Line filters -/

/-- What a filter makes of one level (R56 with `need` 1, R90 with `need` 2): a low sample arms it; of the high samples that
follow, the one that finds the high count at `need` is accepted as a rising edge. -/
def LineFilter.take (need : Nat) (level : Bool) (f : LineFilter) : LineFilter :=
  if level then
    if f.armed then
      if f.high < need then { f with high := f.high + 1 }
      else { f with armed := false, high := 0, accepted := true }
    else f
  else { f with armed := true, high := 0 }

/-- Whether the line still wants its sample of the present tick (R56, R90). -/
def LineFilter.wants (now : Tick) (f : LineFilter) : Bool := f.sampledAt != some now

/-- The sample of a filtered line at the present tick, once per tick (R56, R90): a second one at the same tick is none. -/
def LineFilter.sample (need : Nat) (now : Tick) (level : Bool) (f : LineFilter) : LineFilter :=
  if f.wants now then { f.take need level with sampledAt := some now } else f

/-- Taking an accepted edge. Either a line sample has accepted it already, or this tick's high sample, which the line still wants
and the command itself stands for, is the one that is accepted (R56, R90; log entry 3). None when there is no accepted edge to
take. -/
def LineFilter.takeEdge (need : Nat) (now : Tick) (f : LineFilter) : Option LineFilter :=
  if f.accepted then some { f with accepted := false }
  else if f.wants now && f.armed && f.high == need then
    some { armed := false, high := 0, accepted := false, sampledAt := some now }
  else none

/-! ## Voices and held keys, as the other blocks read them -/

/-- Whether a voice is SOUNDING (R118). -/
def Voice.isSounding (v : Voice) : Bool := v.state == .sounding

/-- Whether a voice is FREE (R118). -/
def Voice.isFree (v : Voice) : Bool := v.state == .free

/-- Whether a voice is RELEASING (R118). -/
def Voice.isReleasing (v : Voice) : Bool := !v.isSounding && !v.isFree

/-- V: the number of SOUNDING voices in the whole voice table (R152). -/
def State.soundingTotal (s : State) : Nat := s.val.voices.toList.countP Voice.isSounding

/-- The SOUNDING count of a section (R118). -/
def State.soundingIn (n : Fin 8) (s : State) : Nat :=
  s.val.voices.toList.countP fun v => v.isSounding && v.sect == n

/-- The number of RELEASING voices in the whole table (R118). -/
def State.releasingTotal (s : State) : Nat := s.val.voices.toList.countP Voice.isReleasing

/-- The held-key entry of a key, if the table lists it (R120). -/
def State.heldEntry (k : Fin 192) (s : State) : Option HeldKey := s.val.held.find? fun h => h.key == k

/-- Whether the held-key table lists a key (R8). -/
def State.isHeld (k : Fin 192) (s : State) : Bool := (s.heldEntry k).isSome

/-! ## Event Queue -/

/-- The number of entries the queue has room for (R152). -/
def queueSize : Nat := 128

/-- The fill (R152). -/
def State.fill (s : State) : Nat := s.evq.entries.length

/-- F, the number of free entries (R152). -/
def State.freeEntries (s : State) : Nat := queueSize - s.fill

/-- The test for an attack, a retrigger or a re-articulation of one voice (R153, R154). -/
def State.admitsAttack (s : State) : Bool := decide (s.soundingTotal + 2 ≤ s.freeEntries)

/-- The test for a general report and for a new Dynamic entry (R154). -/
def State.admitsGeneral (s : State) : Bool := decide (s.soundingTotal + 1 ≤ s.freeEntries)

/-- The section a section report belongs to; none for a general report (R147). -/
def Report.section? : Report → Option (Fin 8)
  | .noteOn n _ _ _ => some n
  | .noteOff n _ _ => some n
  | .dynamic n _ => some n
  | .allOff _ | .reversal _ | .registration _ _ _ | .clockState _ _ | .fault _ | .started _ => none

/-- Whether an entry is an AllOff entry. -/
def Entry.isAllOff (e : Entry) : Bool :=
  match e.report with
  | .allOff _ => true
  | _ => false

/-- Whether an entry is the Dynamic entry of a section. -/
def Entry.isDynamicOf (n : Fin 8) (e : Entry) : Bool :=
  match e.report with
  | .dynamic m _ => m == n
  | _ => false

/-- Placing a new entry: after every entry whose due tick is equal or earlier, and after an AllOff at the head, before every
entry whose due tick is later (R148). -/
def insertEntry (e : Entry) : List Entry → List Entry
  | [] => [e]
  | x :: xs => if x.isAllOff || hasCome e.due x.due then x :: insertEntry e xs else e :: x :: xs

/-- The due tick of a report of section n made now (R149): a last-due that has come plays no part. -/
def State.dueTick (n : Fin 8) (s : State) : Tick :=
  let earliest := s.tick + BitVec.ofNat 32 s.scn.records[n].alignment
  if s.evq.ahead[n] = true ∧ 0 < wrapDiff s.evq.lastDue[n] earliest then s.evq.lastDue[n] else earliest

/-- A report of section n becomes an entry, and its due tick the section's last-due (R149). -/
def pushSection (n : Fin 8) (r : Report) (s : State) : State :=
  s.withEvq
    { entries := insertEntry { report := r, due := s.dueTick n, order := s.evq.made } s.evq.entries
      lastDue := s.evq.lastDue.set n (s.dueTick n)
      ahead := s.evq.ahead.set n (s.dueTick n != s.tick)
      made := s.evq.made + 1 }

/-- A general report becomes an entry, due now (R150). -/
def pushGeneral (r : Report) (s : State) : State :=
  s.withEvq
    { s.evq with
      entries := insertEntry { report := r, due := s.tick, order := s.evq.made } s.evq.entries
      made := s.evq.made + 1 }

/-- A general report handed to the queue: admitted under R154, dropped otherwise. -/
def offerGeneral (r : Report) (s : State) : State :=
  if s.admitsGeneral then pushGeneral r s else s

/-- Whether the queue holds a Dynamic entry for section n (R151). -/
def State.holdsDynamic (n : Fin 8) (s : State) : Bool := s.evq.entries.any (Entry.isDynamicOf n)

/-- The level of the queued Dynamic entry of section n is replaced in place (R151). -/
def replaceDynamic (n : Fin 8) (level : Nat) (s : State) : State :=
  s.withEvq
    { s.evq with
      entries := s.evq.entries.map fun e =>
        if e.isDynamicOf n then { e with report := .dynamic n level } else e }

/-- The cut purge of the queue (R156): section entries and an earlier AllOff go, every last-due becomes now, room is made if
general entries fill the queue, and AllOff stands at the head. -/
def purgeForCut (cause : AllOffCause) (s : State) : State :=
  let kept := s.evq.entries.filter fun e => e.report.section?.isNone && !e.isAllOff
  let roomy := if queueSize ≤ kept.length then kept.dropLast else kept
  s.withEvq
    { entries := { report := .allOff cause, due := s.tick, order := s.evq.made } :: roomy
      lastDue := Vector.replicate 8 s.tick
      ahead := Vector.replicate 8 false
      made := s.evq.made + 1 }

/-- The last-dues at a tick that has just begun: those that come now are no longer ahead (R149). -/
def EventQueue.atTick (now : Tick) (q : EventQueue) : EventQueue :=
  { q with ahead := Vector.ofFn fun n : Fin 8 => q.ahead[n] && !hasCome now q.lastDue[n] }

/-- The reset purge of the queue (R157): AllOff(RESET) and Started(SOFT) alone, creation order counted anew. -/
def purgeForReset (s : State) : State :=
  s.withEvq
    { entries :=
        [{ report := .allOff .reset, due := s.tick, order := 0 },
         { report := .started .soft, due := s.tick, order := 1 }]
      lastDue := Vector.replicate 8 s.tick
      ahead := Vector.replicate 8 false
      made := 2 }

end Sys2Proof.Machine
end

