-- ==== Sys2Proof/Machine/Flags.lean ====
section
/-! DEFINITION. The Status Unit's flags and counters: setting a sticky flag, counting its occurrences, and the Fault report of a
flag that goes from clear to set (R185, R186). -/

namespace Sys2Proof.Machine

/-- The bit of a flag in the sticky flag byte, which is also its Fault flag code (R181). -/
def StickyFlag.bit : StickyFlag → Nat
  | .clip => 0
  | .frame => 1
  | .length => 2
  | .gap => 3
  | .check => 4
  | .overrun => 5
  | .dropAttack => 6
  | .keyFull => 7

/-- Whether a sticky flag is set. -/
def StatusUnit.isSet (f : StickyFlag) (u : StatusUnit) : Bool := u.sticky.getLsbD f.bit

/-- A counter after one more occurrence: it stays at its highest value (R185). -/
def bump (highest count : Nat) : Nat := if count < highest then count + 1 else count

/-- One occurrence counted: CLIP and KEYFULL have no counter (R185). -/
def StatusUnit.tally (f : StickyFlag) (u : StatusUnit) : StatusUnit :=
  match f with
  | .clip | .keyFull => u
  | .frame => { u with frameCount := bump 255 u.frameCount }
  | .length => { u with lengthCount := bump 255 u.lengthCount }
  | .gap => { u with gapCount := bump 255 u.gapCount }
  | .check => { u with checkCount := bump 255 u.checkCount }
  | .overrun => { u with overrunCount := bump 255 u.overrunCount }
  | .dropAttack => { u with dropAttackCount := bump 65535 u.dropAttackCount }

/-- The sticky flag byte with a flag set. -/
def StatusUnit.setFlag (f : StickyFlag) (u : StatusUnit) : StatusUnit :=
  { u with sticky := u.sticky ||| BitVec.ofNat 8 (2 ^ f.bit) }

/-- An occurrence: the counter rises, the flag is set, and if it was clear one Fault report is handed to the queue at that
moment (R185, R186). -/
def raiseFlag (f : StickyFlag) (s : State) : State :=
  if s.stu.isSet f then s.withStu (s.stu.tally f)
  else offerGeneral (.fault (.sticky f)) (s.withStu ((s.stu.tally f).setFlag f))

/-- The live flag byte (R181, R185): SENSOR is bit 0, CUT is bit 1. -/
def State.liveFlags (s : State) : Byte :=
  (if s.blu.sensor == .fault then 1 else 0) ||| (if s.scn.cut then 2 else 0)

/-- A count that a set bit of a mask clears (R188). -/
def clearedBy (mask : Byte) (f : StickyFlag) (count : Nat) : Nat :=
  if mask.getLsbD f.bit then 0 else count

/-- The flags named by a mask become clear, and their counters 0 (R188). -/
def StatusUnit.clear (mask : Byte) (u : StatusUnit) : StatusUnit where
  sticky := u.sticky &&& ~~~mask
  frameCount := clearedBy mask .frame u.frameCount
  lengthCount := clearedBy mask .length u.lengthCount
  gapCount := clearedBy mask .gap u.gapCount
  checkCount := clearedBy mask .check u.checkCount
  overrunCount := clearedBy mask .overrun u.overrunCount
  dropAttackCount := clearedBy mask .dropAttack u.dropAttackCount

end Sys2Proof.Machine
end

