-- ==== Sys2Proof/Machine/Operands.lean ====
section
/-! DEFINITION. The operand forms of the link: the codes of the enumerated fields (R181), the fields and records of request
payloads with their checks and clamps (R74, R82, R100, R181, R182), and the bytes of replies and reports (R183, R184). -/

namespace Sys2Proof.Machine

/-! ## Fields -/

/-- The byte of a payload at an offset, as a number. -/
def byteAt (p : List Byte) (i : Nat) : Nat := (p.getD i 0).toNat

/-- A two-byte field, most significant byte first (R167). -/
def wordAt (p : List Byte) (i : Nat) : Nat := byteAt p i * 256 + byteAt p (i + 1)

/-- A one-byte field of a reply or report. -/
def byte1 (n : Nat) : List Byte := [BitVec.ofNat 8 n]

/-- A two-byte field, most significant byte first (R167). -/
def byte2 (n : Nat) : List Byte := [BitVec.ofNat 8 (n / 256), BitVec.ofNat 8 n]

/-- A signed two-byte field in two's complement (R167). -/
def byte2s (i : Int) : List Byte := byte2 (BitVec.ofInt 16 i).toNat

/-- A four-byte field (R184). -/
def byte4 (t : Tick) : List Byte := byte2 (t.toNat / 65536) ++ byte2 (t.toNat % 65536)

/-- A number brought into a range. -/
def clampNat (lo hi n : Nat) : Nat := if n < lo then lo else if hi < n then hi else n

/-- An integer saturated to a range (spec/00_scope.md, 2.4). -/
def saturate (lo hi i : Int) : Int := if i < lo then lo else if hi < i then hi else i

/-- One bit as a field of value 0 or 1. -/
def bitCode (b : Bool) : Nat := if b then 1 else 0

/-! ## Codes (R181) -/

def KeyClass.code : KeyClass → Nat
  | .unused => 0
  | .treble => 1
  | .bassSingle => 2
  | .bassChord => 3
  | .register => 4

/-- The class a code names, if it is one of the five. -/
def classOfCode : Nat → Option KeyClass
  | 0 => some .unused
  | 1 => some .treble
  | 2 => some .bassSingle
  | 3 => some .bassChord
  | 4 => some .register
  | _ => none

def Trigger.code : Trigger → Nat
  | .reversal => 1
  | .beat => 2
  | .bar => 3

def Condition.code : Condition → Nat
  | .immediate => 0
  | .next t => t.code

/-- The condition a code names, if it is one of the four. -/
def conditionOfCode : Nat → Option Condition
  | 0 => some .immediate
  | 1 => some (.next .reversal)
  | 2 => some (.next .beat)
  | 3 => some (.next .bar)
  | _ => none

def RangeMode.code : RangeMode → Nat
  | .fold => 0
  | .drop => 1

/-- The out-of-range mode a code names. -/
def modeOfCode : Nat → Option RangeMode
  | 0 => some .fold
  | 1 => some .drop
  | _ => none

/-- The value of a field that carries 0 or 1. -/
def bitOfCode : Nat → Option Bool
  | 0 => some false
  | 1 => some true
  | _ => none

def Origin.code : Origin → Nat
  | .request => 0
  | .switch => 1

def Side.code : Side → Nat
  | .push => 1
  | .pull => 2

/-- The code of the committed direction, NONE being 0. -/
def directionCode : Option Side → Nat
  | none => 0
  | some d => d.code

def SensorState.code : SensorState → Nat
  | .ok => 0
  | .fault => 1

def ClockPhase.code : ClockPhase → Nat
  | .stopped => 0
  | .starting => 1
  | .running => 2
  | .coasting => 3

def Readiness.code : Readiness → Nat
  | .off => 0
  | .settling _ => 1
  | .ready => 2

/-- The code of the cut record's cause, NONE being 0. -/
def cutCauseCode : Option CutCause → Nat
  | none => 0
  | some .line => 1
  | some .request => 2

def AllOffCause.code : AllOffCause → Nat
  | .line => 1
  | .request => 2
  | .reset => 3

def NoteOnCause.code : NoteOnCause → Nat
  | .press => 0
  | .reversal => 1
  | .revoice => 2
  | .retrigger => 3

def NoteOffReason.code : NoteOffReason → Nat
  | .release => 0
  | .reversal => 1
  | .revoice => 2
  | .stolen => 3
  | .sectionOff => 4
  | .limit => 5

def StartedCause.code : StartedCause → Nat
  | .power => 0
  | .line => 1
  | .soft => 2

def FaultName.code : FaultName → Nat
  | .sticky f => f.bit
  | .sensor => 8

/-- The code of a preset number where NONE is possible: 0xFF. -/
def presetCode : Option (Fin 16) → Nat
  | none => 255
  | some p => p.val

/-! ## Key entry record, 11 bytes (R69, R73, R74, R181) -/

/-- A checked pitch set: its length at most 4 and each pitch within the length at most 127 (R74). -/
def pitchSetOf (len : Nat) (bytes : List Byte) : Option (List Nat) :=
  let pitches := (bytes.take len).map BitVec.toNat
  if 4 < len then none
  else if pitches.all (fun p => decide (p ≤ 127)) then some pitches else none

/-- A key entry from its record, none when R74 refuses it. Only a REGISTER record has its register fields checked and kept;
any other takes preset 0 and IMMEDIATE (R73). -/
def keyEntryOf (r : List Byte) : Option KeyEntry := do
  let cls ← classOfCode (byteAt r 0 % 16)
  let push ← pitchSetOf (byteAt r 1 / 16) ((r.drop 2).take 4)
  let pull ← pitchSetOf (byteAt r 1 % 16) ((r.drop 6).take 4)
  if cls = .register then
    let condition ← conditionOfCode (byteAt r 0 / 16)
    if h : byteAt r 10 < 16 then
      some { cls := cls, push := push, pull := pull, preset := ⟨byteAt r 10, h⟩, condition := condition }
    else none
  else some { cls := cls, push := push, pull := pull, preset := 0, condition := .immediate }

/-- The four pitch positions of a set, 0 beyond its length (R77). -/
def pitchBytes (set : List Nat) : List Byte :=
  (List.range 4).map fun i => BitVec.ofNat 8 (set.getD i 0)

/-- The record of a key entry (R77, R181). -/
def KeyEntry.bytes (e : KeyEntry) : List Byte :=
  byte1 (e.condition.code * 16 + e.cls.code) ++ byte1 (e.push.length * 16 + e.pull.length) ++
    pitchBytes e.push ++ pitchBytes e.pull ++ byte1 e.preset.val

/-- The records of a WriteKeys, 11 bytes each, all of them or none (R74). -/
def keyEntriesOf : Nat → List Byte → Option (List KeyEntry)
  | 0, _ => some []
  | n + 1, p => do
    let e ← keyEntryOf (p.take 11)
    let es ← keyEntriesOf n (p.drop 11)
    some (e :: es)

/-! ## Section record, 17 bytes (R80, R82, R181) -/

/-- Whether a carried range passes R82: hi at most 127 and hi - lo at least 11. -/
def rangeLegal (lo hi : Nat) : Bool := decide (hi ≤ 127) && decide (lo + 11 ≤ hi)

/-- A section record as carried, its fields at their byte offsets. -/
def sectionRecordOf (r : List Byte) : SectionRecord where
  polyphony := byteAt r 0
  lo := byteAt r 1
  hi := byteAt r 2
  releaseHold := wordAt r 3
  alignment := wordAt r 5
  boost := byteAt r 7
  curve := Vector.ofFn fun i => byteAt r (8 + i.val)

/-- The record as taken: four fields clamped (R82). -/
def SectionRecord.clamped (r : SectionRecord) : SectionRecord :=
  { r with
    polyphony := clampNat 1 16 r.polyphony
    releaseHold := clampNat 0 2000 r.releaseHold
    alignment := clampNat 0 400 r.alignment
    boost := clampNat 0 127 r.boost }

/-- The bytes of a section record. -/
def SectionRecord.bytes (r : SectionRecord) : List Byte :=
  byte1 r.polyphony ++ byte1 r.lo ++ byte1 r.hi ++ byte2 r.releaseHold ++ byte2 r.alignment ++ byte1 r.boost ++
    r.curve.toList.map (BitVec.ofNat 8)

/-! ## Layer record, 9 bytes (R97, R100, R181) -/

/-- A layer record from its bytes, the transpose as carried; none when R100 refuses it. -/
def layerOf (r : List Byte) : Option Layer := do
  let enabled ← bitOfCode (byteAt r 0)
  let mode ← modeOfCode (byteAt r 6)
  let reattack ← bitOfCode (byteAt r 7)
  let accent ← bitOfCode (byteAt r 8)
  if h : byteAt r 1 < 8 ∧ byteAt r 2 ≤ byteAt r 3 ∧ byteAt r 3 ≤ 127 ∧ byteAt r 5 < 8 then
    some
      { enabled := enabled
        mask := BitVec.ofNat 3 (byteAt r 1)
        lo := byteAt r 2
        hi := byteAt r 3
        transpose := (r.getD 4 0).toInt
        sect := ⟨byteAt r 5, h.2.2.2⟩
        mode := mode
        reattack := reattack
        accent := accent }
  else none

/-- The layer as taken: its transpose clamped (R100). -/
def Layer.clamped (l : Layer) : Layer := { l with transpose := saturate (-48) 48 l.transpose }

/-- The bytes of a layer record. -/
def Layer.bytes (l : Layer) : List Byte :=
  byte1 (bitCode l.enabled) ++ byte1 l.mask.toNat ++ byte1 l.lo ++ byte1 l.hi ++ [BitVec.ofInt 8 l.transpose] ++
    byte1 l.sect.val ++ byte1 l.mode.code ++ byte1 (bitCode l.reattack) ++ byte1 (bitCode l.accent)

/-! ## Replies and reports -/

/-- The reply statuses (R175). -/
inductive Status
  | done
  | clamped
  | accepted
  | replaced
  | refusedKind
  | refusedLength
  | refusedValue
  | refusedCut
  | refusedCutHeld
  | failedMoved
  | failedSensor
deriving DecidableEq, Repr

/-- The code of a status (R175). -/
def statusCode : Status → Nat
  | .done => 0x00
  | .clamped => 0x01
  | .accepted => 0x02
  | .replaced => 0x03
  | .refusedKind => 0x10
  | .refusedLength => 0x11
  | .refusedValue => 0x12
  | .refusedCut => 0x13
  | .refusedCutHeld => 0x14
  | .failedMoved => 0x20
  | .failedSensor => 0x21

/-- Done, or Clamped when clamping changed a field. -/
def doneOrClamped (changed : Bool) : Status := if changed then .clamped else .done

/-- The pending slot as a reply carries it: preset, condition, origin, or 0xFF, 0, 0 when empty (R183). -/
def slotBytes : Option Change → List Byte
  | none => [0xFF, 0, 0]
  | some c => byte1 c.preset.val ++ byte1 c.trigger.code ++ byte1 c.origin.code

/-- The KIND of a report frame (R184). -/
def Report.kindCode : Report → Nat
  | .noteOn _ _ _ _ => 0x80
  | .noteOff _ _ _ => 0x81
  | .dynamic _ _ => 0x82
  | .allOff _ => 0x83
  | .reversal _ => 0x84
  | .registration _ _ _ => 0x85
  | .clockState _ _ => 0x86
  | .fault _ => 0x87
  | .started _ => 0x88

/-- The fields of a report frame after its time (R184). -/
def Report.fields : Report → List Byte
  | .noteOn n p l c => byte1 n.val ++ byte1 p ++ byte1 l ++ byte1 c.code
  | .noteOff n p r => byte1 n.val ++ byte1 p ++ byte1 r.code
  | .dynamic n l => byte1 n.val ++ byte1 l
  | .allOff c => byte1 c.code
  | .reversal d => byte1 d.code
  | .registration p o c => byte1 p.val ++ byte1 o.code ++ byte1 c.code
  | .clockState p q => byte1 p.code ++ byte2 q
  | .fault f => byte1 f.code
  | .started c => byte1 c.code

/-- The payload of a report frame: its time, which is its due tick, then its fields (R184). -/
def Entry.payload (e : Entry) : List Byte := byte4 e.due ++ e.report.fields

end Sys2Proof.Machine
end

