-- ==== Sys2Proof/Machine/Link.lean ====
section
/-! DEFINITION. The Link Controller (chapter 10): the check, the receiver with its rescan, the request handler and its replies,
and the transmitter. -/

namespace Sys2Proof.Machine

/-! ## Frames and the check (R167, R168) -/

/-- One shift of the remainder (R168, step 3). -/
def checkShift (r : BitVec 16) : BitVec 16 := if r.msb then (r <<< 1) ^^^ 0x1021#16 else r <<< 1

/-- The remainder after one byte (R168). -/
def checkByte (r : BitVec 16) (b : Byte) : BitVec 16 :=
  Nat.repeat checkShift 8 (r ^^^ (b.zeroExtend 16 <<< 8))

/-- The check over KIND, TAG, LEN and payload (R168). -/
def checkOf (bytes : List Byte) : BitVec 16 := bytes.foldl checkByte 0xFFFF#16

/-- The bytes a frame's check is computed over. -/
def Frame.body (f : Frame) : List Byte := f.kind :: f.tag :: BitVec.ofNat 8 f.payload.length :: f.payload

/-- A whole frame as it stands on the line (R167). -/
def Frame.line (f : Frame) : List Byte := 0xD5 :: f.body ++ byte2 (checkOf f.body).toNat

/-! ## Receiver (R170 to R172) -/

/-- The receiver's state replaced. -/
def setReceiver (r : Receiver) (s : State) : State := s.withLnk { s.lnk with receiver := r }

/-- Whether held bytes make a complete frame: 5 + LEN of them (R170). -/
def frameIsComplete (held : List Byte) : Bool := decide (3 ≤ held.length) && held.length == 5 + byteAt held 2

/-- Whether the check of a complete frame's held bytes agrees (R168, R171). -/
def checkAgrees (held : List Byte) : Bool :=
  wordAt held (3 + byteAt held 2) == (checkOf (held.take (3 + byteAt held 2))).toNat

/-- The frame that held bytes carry. -/
def frameOf (held : List Byte) : Frame where
  kind := held.getD 0 0
  tag := held.getD 1 0
  payload := (held.drop 3).take (byteAt held 2)

/-- Whether a KIND lies in the request space (R169). -/
def inRequestSpace (k : Byte) : Bool := decide (k.toNat ≤ 0x3F)

/-- What becomes of a complete frame whose check agrees (R172). -/
def disposeFrame (f : Frame) (s : State) : State :=
  if !inRequestSpace f.kind then s
  else if 4 ≤ s.lnk.inbound.length then raiseFlag .overrun s
  else s.withLnk { s.lnk with inbound := s.lnk.inbound ++ [f] }

/-- The receiver taking a run of bytes from HUNTING as though each arrived now (R170 to R172): what a rescan does with the held
bytes. Each 0xD5 starts a frame at the bytes behind it, and a frame abandoned by LENGTH or CHECK is searched again in turn.
The first argument bounds the number of bytes looked at. -/
def hunt : Nat → List Byte → State → State
  | 0, _, s => setReceiver .hunting s
  | _ + 1, [], s => setReceiver .hunting s
  | n + 1, b :: bs, s =>
    if b ≠ 0xD5 then hunt n bs s
    else if bs.length < 3 then setReceiver (.assembling bs s.tick) s
    else if 48 < byteAt bs 2 then hunt n bs (raiseFlag .length s)
    else if bs.length < 5 + byteAt bs 2 then setReceiver (.assembling bs s.tick) s
    else
      let held := bs.take (5 + byteAt bs 2)
      if checkAgrees held then hunt n (bs.drop (5 + byteAt bs 2)) (disposeFrame (frameOf held) s)
      else hunt n bs (raiseFlag .check s)

/-- Abandoning the frame being assembled: its flag is set and counted, and the held bytes are rescanned (R171). -/
def abandon (f : StickyFlag) (held : List Byte) (s : State) : State := hunt held.length held (raiseFlag f s)

/-- Completion of the frame being assembled, if it is complete: the check is tested and the frame disposed of
(R170, R171, R172). -/
def completeFrame (s : State) : State :=
  match s.lnk.receiver with
  | .hunting => s
  | .assembling held _ =>
    if frameIsComplete held then
      if checkAgrees held then setReceiver .hunting (disposeFrame (frameOf held) s)
      else abandon .check held s
    else s

/-- A byte taken by the receiver (R170, R171). -/
def takeByte (b : Byte) (stopLow : Bool) (s : State) : State :=
  match s.lnk.receiver with
  | .hunting => if !stopLow && b == 0xD5 then setReceiver (.assembling [] s.tick) s else s
  | .assembling held _ =>
    if stopLow then abandon .frame held s
    else
      let grown := held ++ [b]
      if grown.length = 3 ∧ 48 < byteAt grown 2 then abandon .length grown s
      else setReceiver (.assembling grown s.tick) s

/-- BYTE_ARRIVAL (R170, R171). A frame that was complete before this byte has been disposed of by then (R170). -/
def execByteArrival (b : Byte) (stopLow : Bool) (s : State) : Result :=
  whileRunning (fun s => takeByte b stopLow (completeFrame s)) s

/-- Whether 21 ticks have passed after the gap time of a frame that still wants bytes (R171). -/
def State.gapDue (s : State) : Bool :=
  match s.lnk.receiver with
  | .hunting => false
  | .assembling held gapTime => !frameIsComplete held && decide (21 ≤ wrapDiff s.tick gapTime)

/-- The held bytes of the frame being assembled. -/
def State.heldBytes (s : State) : List Byte :=
  match s.lnk.receiver with
  | .hunting => []
  | .assembling held _ => held

/-- GAP (R171). -/
def execGap (s : State) : Result :=
  whileRunning (fun s => if s.gapDue then abandon .gap s.heldBytes s else s) s

/-- FRAME_COMPLETE (R171, R172). -/
def execFrameComplete (s : State) : Result := whileRunning completeFrame s

/-! ## Request handler (R173 to R176) -/

/-- A reply is placed in the slot and the handler becomes REPLY_PENDING (R174, R175). -/
def placeReply (kind tag : Byte) (status : Status) (data : List Byte) (s : State) : State :=
  s.withLnk
    { s.lnk with
      slot := some { kind := 0x40, tag := tag, payload := kind :: byte1 (statusCode status) ++ data }
      handler := .replyPending }

/-- The request the handler would take now: it is IDLE and the inbound queue holds a frame (R173). -/
def State.nextRequest (s : State) : Option Frame :=
  match s.lnk.handler, s.lnk.inbound with
  | .idle, f :: _ => some f
  | _, _ => none

/-- The oldest frame leaves the inbound queue (R173). -/
def dropRequest (s : State) : State := s.withLnk { s.lnk with inbound := s.lnk.inbound.tail }

/-- The handler takes the oldest frame, when it may and the frame is one of the kinds asked for, and carries it out; otherwise it
takes nothing (R173). -/
def takeWaiting (wanted : Byte → Bool) (carryOut : Frame → State → State) (s : State) : State :=
  match s.nextRequest with
  | some f => if wanted f.kind then carryOut f (dropRequest s) else s
  | none => s

/-- A request command: the handler takes the oldest frame if it is of a kind asked for. A command whose request is not the next
one to take has no effect (R173; log entry 4). -/
def takeRequest (wanted : Byte → Bool) (carryOut : Frame → State → State) (s : State) : Result :=
  whileRunning (takeWaiting wanted carryOut) s

/-- What an owning block gives back: the state as the request leaves it, the status and the reply data (R174). -/
structure Answer where
  state : State
  status : Status
  data : List Byte

/-- An owner's answer placed as the reply to a frame (R174, R175). -/
def reply (f : Frame) (a : Answer) : State := placeReply f.kind f.tag a.status a.data a.state

/-- A request of KIND `kind` and LEN `len` passed to its owner, or refused with Refused-Length (R174). -/
def serve (kind : Byte) (len : Nat) (owner : List Byte → State → Answer) (s : State) : Result :=
  takeRequest (fun k => k == kind)
    (fun f s =>
      if f.payload.length = len then reply f (owner f.payload s)
      else reply f { state := s, status := .refusedLength, data := [] })
    s

/-- Whether a KIND is an unassigned one of the request space (R169, R182). -/
def unassigned (k : Byte) : Bool := inRequestSpace k && (k == 0 || decide (0x14 < k.toNat))

/-- UNKNOWN_REQUEST (R174). -/
def execUnknownRequest (s : State) : Result :=
  takeRequest unassigned (fun f s => reply f { state := s, status := .refusedKind, data := [] }) s

/-! ## Transmitter (R177, R178) -/

/-- Whether an entry at the head may be taken: its due tick has come, and an AllOff is always due (R155). -/
def Entry.isDue (now : Tick) (e : Entry) : Bool := e.isAllOff || hasCome now e.due

/-- The transmitter takes the reply: the slot empties, the handler becomes IDLE, and the reply frame is sent (R177). -/
def sendReply (f : Frame) (s : State) : State :=
  s.withLnk { s.lnk with slot := none, handler := .idle, transmitter := .sending f.line }

/-- The report frame of an entry, its TAG the report sequence (R178, R184). -/
def reportFrame (e : Entry) (tag : Byte) : Frame where
  kind := BitVec.ofNat 8 e.report.kindCode
  tag := tag
  payload := e.payload

/-- The transmitter takes the head entry: it leaves the queue and is sent as a report frame (R177, R178). -/
def sendReport (e : Entry) (s : State) : State :=
  let sent := s.withEvq { s.evq with entries := s.evq.entries.tail }
  sent.withLnk
    { s.lnk with
      transmitter := .sending (reportFrame e s.lnk.sequence).line
      sequence := s.lnk.sequence + 1 }

/-- The choice of an IDLE transmitter: the reply, else a due head entry, else nothing (R177). -/
def chooseFrame (s : State) : State :=
  match s.lnk.slot with
  | some f => sendReply f s
  | none =>
    match s.evq.entries with
    | e :: _ => if e.isDue s.tick then sendReport e s else s
    | [] => s

/-- TRANSMIT (R177): the idle transmitter makes its choice. -/
def execTransmit (s : State) : Result :=
  whileRunning (fun s => if s.lnk.transmitter = .idle then chooseFrame s else s) s

/-- FRAME_SENT (R177, R178): the frame's last check byte is sent, and the transmitter becomes IDLE and chooses again. -/
def execFrameSent (s : State) : Result :=
  whileRunning
    (fun s =>
      if s.lnk.transmitter = .idle then s
      else chooseFrame (s.withLnk { s.lnk with transmitter := .idle }))
    s

end Sys2Proof.Machine
end

