-- ==== Sys2Proof/Machine/Map.lean ====
section
/-! DEFINITION. The Instrument Map (chapter 5): WriteKeys and ReadKeys. -/

namespace Sys2Proof.Machine

/-- The entries of a list written from key `first` on (R75). -/
def writeEntries (first : Nat) (es : List KeyEntry) (m : Vector KeyEntry 192) : Vector KeyEntry 192 :=
  Vector.ofFn fun i : Fin 192 => if first ≤ i.val then es.getD (i.val - first) m[i] else m[i]

/-- Whether a key count of a request is legal (R74, R77). -/
def keyCountLegal (count : Nat) : Bool := decide (1 ≤ count) && decide (count ≤ 4)

/-- WriteKeys, once its length fits its count (R74, R75). -/
def writeKeys (p : List Byte) (s : State) : Answer :=
  let first := byteAt p 0
  let count := byteAt p 1
  match keyEntriesOf count (p.drop 2) with
  | none => { state := s, status := .refusedValue, data := p.take 2 }
  | some es =>
    if first + count ≤ 192 then
      { state := s.withImap (writeEntries first es s.imap), status := .done, data := p.take 2 }
    else { state := s, status := .refusedValue, data := p.take 2 }

/-- A WriteKeys carried out (R74, R174): LEN below 2 is refused for its length; a count of 0 or above 4 is refused for its value
whatever the length; then the length must fit the count. -/
def serveWriteKeys (f : Frame) (s : State) : State :=
  if f.payload.length < 2 then reply f { state := s, status := .refusedLength, data := [] }
  else if !keyCountLegal (byteAt f.payload 1) then
    reply f { state := s, status := .refusedValue, data := f.payload.take 2 }
  else if f.payload.length = 2 + 11 * byteAt f.payload 1 then reply f (writeKeys f.payload s)
  else reply f { state := s, status := .refusedLength, data := [] }

/-- The handler takes the WriteKeys that waits, if it is the next request (R75, R173). -/
def takeWriteKeys (s : State) : State := takeWaiting (fun k => k == 0x06) serveWriteKeys s

/-- WRITEKEYS (R74, R75). -/
def execWriteKeys (s : State) : Result := whileRunning takeWriteKeys s

/-- The records of `count` entries from key `first` on, in ascending key id (R77). -/
def entryRecords (first count : Nat) (m : Vector KeyEntry 192) : List Byte :=
  ((m.toList.drop first).take count).flatMap KeyEntry.bytes

/-- ReadKeys (R77). -/
def readKeys (p : List Byte) (s : State) : Answer :=
  let first := byteAt p 0
  let count := byteAt p 1
  if keyCountLegal count && decide (first + count ≤ 192) then
    { state := s, status := .done, data := p.take 2 ++ entryRecords first count s.imap }
  else { state := s, status := .refusedValue, data := p.take 2 }

/-- READKEYS (R77). -/
def execReadKeys (s : State) : Result := serve 0x07 2 readKeys s

end Sys2Proof.Machine
end

