-- ==== Sys2Proof/Machine/Expression.lean ====
section
/-! DEFINITION. The Expression Unit (chapter 3): force, smoothing, accents, curves, Dynamic reports, attack levels, and
SetExpression. -/

namespace Sys2Proof.Machine

/-! ## Force and smoothing -/

/-- The magnitude after the dead zone, m' (R38). -/
def deadened (z : Nat) (c : Int) : Nat := c.natAbs - z

/-- floor(m' * g / 256), not yet limited (R39). -/
def rawForce (z g : Nat) (c : Int) : Nat := deadened z c * g / 256

/-- The largest force (R39). -/
def forceLimit : Nat := 4095

/-- The smoothed force after a step toward f (R40). -/
def smoothStep (k e f : Nat) : Nat := ((e : Int) + ((f : Int) - (e : Int)) / (2 ^ k : Nat)).toNat

/-- Stages 1 to 3 for an ordinary sample: force, CLIP, smoothing (R37 to R40). -/
def forceStages (c : Int) (s : State) : State :=
  let raw := rawForce s.exu.deadZone s.exu.gain c
  let f := min raw forceLimit
  let clipped := if forceLimit < raw then raiseFlag .clip s else s
  clipped.withExu { clipped.exu with force := f, smoothed := smoothStep s.exu.smoothing s.exu.smoothed f }

/-! ## Accents -/

/-- The countdown of the accent window, at every sample (R42). -/
def accentCountdown (s : State) : State := s.withExu { s.exu with accentCount := s.exu.accentCount - 1 }

/-- Whether the present force is an accent: A > 0 and it exceeds the oldest of the history by at least A (R41). -/
def isAccent (x : Expression) : Bool :=
  decide (0 < x.accentThreshold) && decide ((x.accentThreshold : Int) ≤ (x.force : Int) - (x.history.headD 0 : Nat))

/-- The history advanced and the accent test, at an ordinary sample (R41); in CUT an accent leaves the count at 0 (R48). -/
def accentTest (s : State) : State :=
  s.withExu
    { s.exu with
      history := s.exu.history.tail ++ [s.exu.force]
      accentCount := if isAccent s.exu && !s.scn.cut then s.exu.accentWindow else s.exu.accentCount }

/-! ## Levels -/

/-- The dynamic level that a curve gives for a smoothed force (R44). -/
def levelOf (curve : Vector Nat 9) (e : Nat) : Nat :=
  let i := e / 512
  let u := e % 512
  let y := (curve.toList.getD i 0 : Nat)
  let y' := (curve.toList.getD (i + 1) 0 : Nat)
  ((y : Int) + (((y' : Int) - (y : Int)) * (u : Int)).tdiv 512).toNat

/-- Stage 5: curve and boost in use are taken from the records, and each level is computed (R43, R44). -/
def takeLevels (s : State) : State :=
  s.withExu
    { s.exu with
      sections := Vector.ofFn fun n : Fin 8 =>
        { curve := s.scn.records[n].curve
          boost := s.scn.records[n].boost
          level := levelOf s.scn.records[n].curve s.exu.smoothed
          last := s.exu.sections[n].last } }

/-! ## Dynamic reports -/

/-- A section's last reported level becomes its current level (R46). -/
def markReported (n : Fin 8) (s : State) : State :=
  s.withExu { s.exu with sections := s.exu.sections.set n { s.exu.sections[n] with last := s.exu.sections[n].level } }

/-- A Dynamic report of a section's current level handed to the queue: it replaces the level of a queued Dynamic entry, or needs
admission; the last reported level follows if it was taken (R46, R151). -/
def handDynamic (n : Fin 8) (s : State) : State :=
  if s.holdsDynamic n then markReported n (replaceDynamic n s.exu.sections[n].level s)
  else if s.admitsGeneral then markReported n (pushSection n (.dynamic n s.exu.sections[n].level) s)
  else s

/-- Whether a level has earned a report against the last one reported, with report step S (R45). -/
def reportEarned (step level last : Nat) : Bool :=
  decide (last + step ≤ level) || decide (level + step ≤ last) || (level == 0 && last != 0) || (level == 255 && last != 255)

/-- The report test of one section: only while it is READY and the cut state NORMAL (R45). -/
def testDynamic (n : Fin 8) (s : State) : State :=
  if s.scn.readiness[n] = .ready ∧ s.scn.cut = false ∧
      reportEarned s.exu.reportStep s.exu.sections[n].level s.exu.sections[n].last = true
  then handDynamic n s else s

/-- Stage 6: the report tests in ascending section number (R37, R45). -/
def testDynamics (s : State) : State := (List.finRange 8).foldl (fun s n => testDynamic n s) s

/-- The work of one sample: an ordinary sample brings its centred value, a held one none (R37, R50). -/
def expressionSample (c : Option Int) (s : State) : State :=
  let heard :=
    match c with
    | some c => accentTest (accentCountdown (forceStages c s))
    | none => accentCountdown s
  testDynamics (takeLevels heard)

/-- A section that has become READY is reported with its current level, in NORMAL only (R47, R89). -/
def reportReady (n : Fin 8) (s : State) : State := if s.scn.cut then s else handDynamic n s

/-- Resume's reports: one for each READY section, in ascending section number (R48). -/
def reportAllReady (s : State) : State :=
  (List.finRange 8).foldl (fun s n => if s.scn.readiness[n] = .ready then handDynamic n s else s) s

/-! ## Attack levels -/

/-- The level at which a voice of section n is attacked for a layer (R49). -/
def attackLevel (n : Fin 8) (l : Layer) (s : State) : Nat :=
  let d := s.exu.sections[n]
  if l.accent && decide (0 < s.exu.accentCount) then min 255 (d.level + d.boost) else d.level

/-! ## Cut, soft reset, SetExpression -/

/-- The accent window closed, as at a cut (R48). -/
def closeAccent (s : State) : State := s.withExu { s.exu with accentCount := 0 }

/-- The soft reset of the Expression Unit (R54, R55). -/
def softExpression (s : State) : State :=
  s.withExu
    { s.exu with
      force := 0
      smoothed := 0
      history := [0, 0, 0, 0, 0, 0, 0, 0]
      accentCount := 0
      sections := s.exu.sections.map fun d => { d with level := d.curve[0], last := 0 } }

/-- SetExpression: six fields clamped and put in force (R52, R53). -/
def setExpression (p : List Byte) (s : State) : Answer :=
  let z := clampNat 0 255 (wordAt p 0)
  let g := clampNat 0 1023 (wordAt p 2)
  let k := clampNat 0 6 (byteAt p 4)
  let a := clampNat 0 4095 (wordAt p 5)
  let t := clampNat 1 255 (wordAt p 7)
  let r := clampNat 1 32 (byteAt p 9)
  { state :=
      s.withExu
        { s.exu with
          deadZone := z, gain := g, smoothing := k, accentThreshold := a, accentWindow := t, reportStep := r }
    status :=
      doneOrClamped
        (z != wordAt p 0 || g != wordAt p 2 || k != byteAt p 4 || a != wordAt p 5 || t != wordAt p 7 || r != byteAt p 9)
    data := byte2 z ++ byte2 g ++ byte1 k ++ byte2 a ++ byte2 t ++ byte1 r }

/-- SETEXPRESSION (R52). -/
def execSetExpression (s : State) : Result := serve 0x04 10 setExpression s

end Sys2Proof.Machine
end

