-- ==== Sys2Proof/Machine/Voices.lean ====
section
/-! DEFINITION. The Voice Allocator (chapter 8): attack, release, steal, revoice, section changes, cut and reset. -/

namespace Sys2Proof.Machine

/-! ## The two tables -/

/-- A voice table entry replaced. -/
def setVoice (v : Fin 48) (x : Voice) (s : State) : State :=
  s.withVal { s.val with voices := s.val.voices.set v x }

/-- The held-key table replaced. -/
def setHeld (held : List HeldKey) (s : State) : State := s.withVal { s.val with held := held }

/-- An entry's voice list changed, for the entries of key k. -/
def changePairs (k : Fin 192) (f : List Pair → List Pair) (s : State) : State :=
  setHeld (s.val.held.map fun h => if h.key = k then { h with pairs := f h.pairs } else h) s

/-- An entry's attack direction changed. -/
def setSide (k : Fin 192) (d : Side) (s : State) : State :=
  setHeld (s.val.held.map fun h => if h.key = k then { h with side := d } else h) s

/-- A new entry in the table, which stands in ascending key id (R120, R122). -/
def insertHeld (h : HeldKey) : List HeldKey → List HeldKey
  | [] => [h]
  | x :: xs => if h.key < x.key then h :: x :: xs else x :: insertHeld h xs

/-- The voice list of a key, empty if the table does not list it. -/
def State.pairsOf (k : Fin 192) (s : State) : List Pair := ((s.heldEntry k).map HeldKey.pairs).getD []

/-- A voice removed from every list that holds it (R121, R129). -/
def removeFromLists (v : Fin 48) (s : State) : State :=
  setHeld (s.val.held.map fun h => { h with pairs := h.pairs.filter fun p => p.voice != v }) s

/-- A FREE voice entry: it keeps section, pitch and serial (R118). -/
def Voice.freed (x : Voice) : Voice := { x with state := .free, holders := 0 }

/-- Whether voice i is older than voice j (R119; log entry 6 for equal serials). -/
def State.isOlder (s : State) (i j : Fin 48) : Bool :=
  decide (s.val.voices[i].serial < s.val.voices[j].serial) ||
    (s.val.voices[i].serial == s.val.voices[j].serial && Config.olderAtTie i.val j.val)

/-- The oldest of the voices that pass a test (spec/00_scope.md, 2.5). -/
def State.oldest (passes : Voice → Bool) (s : State) : Option (Fin 48) :=
  (List.finRange 48).foldl
    (fun best i =>
      if passes s.val.voices[i] then
        match best with
        | none => some i
        | some j => if s.isOlder i j then some i else some j
      else best)
    none

/-- The lookup: the voice that is not FREE with this section and pitch (R126). -/
def State.lookup (n : Fin 8) (pitch : Nat) (s : State) : Option (Fin 48) :=
  (List.finRange 48).find? fun i =>
    !s.val.voices[i].isFree && s.val.voices[i].sect == n && s.val.voices[i].pitch == pitch

/-- The FREE entry of lowest index (R118). -/
def State.lowestFree (s : State) : Option (Fin 48) := (List.finRange 48).find? fun i => s.val.voices[i].isFree

/-! ## Ending voices -/

/-- A SOUNDING voice ended outright: its NoteOff, its removal from every list, FREE at once (R129, R141, R142). -/
def endVoice (reason : NoteOffReason) (v : Fin 48) (s : State) : State :=
  let x := s.val.voices[v]
  setVoice v x.freed (removeFromLists v (pushSection x.sect (.noteOff x.sect x.pitch reason) s))

/-- The oldest SOUNDING voice of a section ended (R129, R141, R142). -/
def endOldest (n : Fin 8) (reason : NoteOffReason) (s : State) : State :=
  match s.oldest (fun x => x.isSounding && x.sect == n) with
  | some v => endVoice reason v s
  | none => s

/-- Room under the polyphony limit: when the SOUNDING count equals it, the oldest is stolen (R127, R128). -/
def makeRoom (n : Fin 8) (s : State) : State :=
  if s.soundingIn n = s.scn.records[n].polyphony then endOldest n .stolen s else s

/-- A voice after its last holder let go: FREE with hold 0, else RELEASING until now + hold (R133). -/
def letGo (hold : Nat) (now : Tick) (x : Voice) : Voice :=
  if hold = 0 then x.freed
  else { x with state := .releasing (now + BitVec.ofNat 32 (ticksOfMs hold)), holders := 0 }

/-- A voice released from one key: the holder count falls, and at 0 the NoteOff is made and the voice let go (R133). The pair is
taken from the key's list by the caller. -/
def releaseVoice (reason : NoteOffReason) (v : Fin 48) (s : State) : State :=
  let x := s.val.voices[v]
  if 2 ≤ x.holders then setVoice v { x with holders := x.holders - 1 } s
  else
    setVoice v (letGo s.scn.records[x.sect].releaseHold s.tick x)
      (pushSection x.sect (.noteOff x.sect x.pitch reason) s)

/-- Each voice of a list released, in list order (R132, R136, R138, R140). -/
def releasePairs (reason : NoteOffReason) (ps : List Pair) (s : State) : State :=
  ps.foldl (fun s p => releaseVoice reason p.voice s) s

/-- All voices of a held key released and its list emptied; the entry stays (R136, R138, R140). -/
def releaseKeyVoices (reason : NoteOffReason) (k : Fin 192) (s : State) : State :=
  releasePairs reason (s.pairsOf k) (changePairs k (fun _ => []) s)

/-! ## Attack (section 8.4) -/

/-- An attack of one pitch in one section dropped (R130). -/
def dropAttack (s : State) : State := raiseFlag .dropAttack s

/-- A pitch moved by octaves into a range: 12 is added while it is below lo, and taken away while it is above hi (R124). -/
def foldPitch (lo hi t : Int) : Int :=
  if t < lo then t + 12 * ((lo - t + 11) / 12)
  else if hi < t then t - 12 * ((t - hi + 11) / 12)
  else t

/-- The pitch that a transposed pitch is placed at under a record's range and a layer's mode, none when it is skipped (R124). -/
def rangedPitch (r : SectionRecord) (mode : RangeMode) (t : Int) : Option Nat :=
  if (r.lo : Int) ≤ t ∧ t ≤ (r.hi : Int) then some t.toNat
  else
    match mode with
    | .fold => some (foldPitch r.lo r.hi t).toNat
    | .drop => none

/-- The class mask bit of a class; REGISTER and UNUSED have none (R98, R181). -/
def maskBit : KeyClass → Option Nat
  | .treble => some 0
  | .bassSingle => some 1
  | .bassChord => some 2
  | .unused => none
  | .register => none

/-- Whether a class is one of the three playing classes (R7, R70). -/
def isPlaying (c : KeyClass) : Bool := (maskBit c).isSome

/-- Whether a layer takes keys of a class (R98). -/
def Layer.takes (l : Layer) (c : KeyClass) : Bool := (maskBit c).any l.mask.getLsbD

/-- Whether a layer reaches a source pitch of a key of class c (R98, R123). -/
def Layer.reaches (l : Layer) (c : KeyClass) (p : Nat) : Bool :=
  l.enabled && l.takes c && decide (l.lo ≤ p) && decide (p ≤ l.hi)

/-- A pair added to the end of a key's list (R126 to R128). -/
def addPair (k : Fin 192) (v : Fin 48) (l : Fin 8) (s : State) : State :=
  changePairs k (fun ps => ps ++ [{ voice := v, layer := l }]) s

/-- The next attack serial (R119). -/
def State.nextSerial (s : State) : Serial := s.val.serial + 1

/-- The attack serial counter increased by 1 (R119). -/
def bumpSerial (s : State) : State := s.withVal { s.val with serial := s.nextSerial }

/-- Voice v becomes SOUNDING at section n and pitch t for key k under layer l, with a new serial, holder count 1, its pair, and its
NoteOn (R127, R128, R131). -/
def sound (k : Fin 192) (l : Fin 8) (n : Fin 8) (t : Nat) (cause : NoteOnCause) (v : Fin 48) (s : State) : State :=
  let voiced :=
    addPair k v l
      (bumpSerial (setVoice v { state := .sounding, sect := n, pitch := t, holders := 1, serial := s.nextSerial } s))
  pushSection n (.noteOn n t (attackLevel n s.reg.active[l] s) cause) voiced

/-- A SOUNDING voice shared with one more key (R126). -/
def shareVoice (k : Fin 192) (l : Fin 8) (v : Fin 48) (s : State) : State :=
  addPair k v l (setVoice v { s.val.voices[v] with holders := s.val.voices[v].holders + 1 } s)

/-- A RELEASING voice retriggered, if admitted (R127). -/
def retrigger (k : Fin 192) (l : Fin 8) (n : Fin 8) (t : Nat) (v : Fin 48) (s : State) : State :=
  if s.admitsAttack then sound k l n t .retrigger v (makeRoom n s) else dropAttack s

/-- The entry for a new voice: the lowest FREE one, else the oldest RELEASING one of the whole table, reused silently (R128). -/
def State.roomFor (s : State) : Option (Fin 48) :=
  match s.lowestFree with
  | some v => some v
  | none => s.oldest Voice.isReleasing

/-- A new voice attacked, if admitted and if there is room (R128). -/
def newVoice (k : Fin 192) (l : Fin 8) (n : Fin 8) (t : Nat) (cause : NoteOnCause) (s : State) : State :=
  if s.admitsAttack then
    let roomy := makeRoom n s
    match roomy.roomFor with
    | some v => sound k l n t cause v roomy
    | none => dropAttack roomy
  else dropAttack s

/-- Whether a key's list holds a voice. -/
def listHolds (ps : List Pair) (v : Fin 48) : Bool := ps.any fun p => p.voice == v

/-- The most pairs a voice list holds (R120). -/
def listSize : Nat := 16

/-- Pitch t placed in section n for key k under layer l: readiness, the full list, then the lookup (R125 to R128). -/
def placePitch (k : Fin 192) (l : Fin 8) (n : Fin 8) (cause : NoteOnCause) (t : Nat) (s : State) : State :=
  if s.scn.readiness[n] ≠ .ready then s
  else
    match s.lookup n t with
    | some v =>
      if listHolds (s.pairsOf k) v then s
      else if listSize ≤ (s.pairsOf k).length then dropAttack s
      else if s.val.voices[v].isSounding then shareVoice k l v s
      else retrigger k l n t v s
    | none => if listSize ≤ (s.pairsOf k).length then dropAttack s else newVoice k l n t cause s

/-- One source pitch of a key of class c under layer l (R98, R123, R124). -/
def placeLayer (k : Fin 192) (c : KeyClass) (cause : NoteOnCause) (p : Nat) (l : Fin 8) (s : State) : State :=
  let layer := s.reg.active[l]
  if layer.reaches c p then
    match rangedPitch s.scn.records[layer.sect] layer.mode ((p : Int) + layer.transpose) with
    | some t => placePitch k l layer.sect cause t s
    | none => s
  else s

/-- The pitch set of a key for a direction (R71). -/
def State.pitchSet (k : Fin 192) (d : Side) (s : State) : List Nat :=
  match d with
  | .push => s.imap[k].push
  | .pull => s.imap[k].pull

/-- One source pitch under every layer, in layer order (R123). -/
def placeAll (k : Fin 192) (c : KeyClass) (cause : NoteOnCause) (p : Nat) (s : State) : State :=
  (List.finRange 8).foldl (fun s l => placeLayer k c cause p l s) s

/-- The attack of a key in a direction: its set in list order, each pitch under the layers in order (R123). -/
def attack (k : Fin 192) (d : Side) (cause : NoteOnCause) (s : State) : State :=
  (s.pitchSet k d).foldl (fun s p => placeAll k s.imap[k].cls cause p s) s

/-- The direction a key is attacked in: the committed one, NONE counting as PUSH (R22, R122, R140). -/
def State.attackSide (s : State) : Side := s.blu.direction.getD .push

/-! ## Press and release -/

/-- The most held-key entries (R120). -/
def heldSize : Nat := 24

/-- A press routed to the Voice Allocator (R122). -/
def press (k : Fin 192) (s : State) : State :=
  if s.scn.cut then s
  else if heldSize ≤ s.val.held.length then raiseFlag .keyFull s
  else
    attack k s.attackSide .press
      (setHeld (insertHeld { key := k, side := s.attackSide, pairs := [] } s.val.held) s)

/-- A release routed to the Voice Allocator (R132): the entry goes, and its voices are released in list order. -/
def release (k : Fin 192) (s : State) : State :=
  match s.heldEntry k with
  | none => s
  | some h => releasePairs .release h.pairs (setHeld (s.val.held.filter fun x => x.key != k) s)

/-! ## Revoice (R138, R140) -/

/-- One held key re-attacked: its voices released, the key attacked anew in direction d, and d recorded (R136, R138, R140). -/
def reattack (reason : NoteOffReason) (cause : NoteOnCause) (d : Side) (k : Fin 192) (s : State) : State :=
  setSide k d (attack k d cause (releaseKeyVoices reason k s))

/-- The keys of the held-key table, in ascending key id (R120). -/
def State.heldKeys (s : State) : List (Fin 192) := s.val.held.map HeldKey.key

/-- Every held key revoiced in direction d, in key id order (R138, R140). -/
def revoice (d : Side) (s : State) : State := s.heldKeys.foldl (fun s k => reattack .revoice .revoice d k s) s

/-! ## Section changes, cut, reset -/

/-- Steals with reason LIMIT until the SOUNDING count equals a lowered limit (R142). -/
def stealToLimit (n : Fin 8) (s : State) : State :=
  Nat.repeat (endOldest n .limit) (s.soundingIn n - s.scn.records[n].polyphony) s

/-- A section leaves READY: its SOUNDING voices end, oldest first, with reason SECTION, and its RELEASING ones become FREE
silently (R141). -/
def endSection (n : Fin 8) (s : State) : State :=
  let quiet := Nat.repeat (endOldest n .sectionOff) (s.soundingIn n) s
  quiet.withVal
    { quiet.val with voices := quiet.val.voices.map fun x => if x.isReleasing && x.sect == n then x.freed else x }

/-- The number of voices SOUNDING or RELEASING (R91, R143). -/
def State.liveVoices (s : State) : Nat := s.val.voices.toList.countP fun x => !x.isFree

/-- Every voice FREE and the held-key table empty, with no report (R143, R144). -/
def endAllVoices (s : State) : State :=
  s.withVal { s.val with voices := s.val.voices.map Voice.freed, held := [] }

/-- The soft reset of the Voice Allocator (R144). -/
def softAllocator (s : State) : State :=
  let quiet := endAllVoices s
  quiet.withVal { quiet.val with serial := 0 }

/-- RELEASE_EXPIRY: the RELEASING voice whose expiry has come becomes FREE, with no report (R134). -/
def execReleaseExpiry (voice : Nat) (s : State) : Result :=
  whileRunning
    (fun s =>
      if h : voice < 48 then
        match s.val.voices[voice].state with
        | .releasing expiry =>
          if hasCome s.tick expiry then setVoice ⟨voice, h⟩ s.val.voices[voice].freed s else s
        | .free | .sounding => s
      else s)
    s

end Sys2Proof.Machine
end

