-- ==== Sys2Proof/Machine/Registration.lean ====
section
/-! DEFINITION. The Registration Unit (chapter 7): commits, selections and the pending slot, beat and bar events, its requests, and
the Voice Allocator's handling of a reversal, which begins with a commit (R112, R135). -/

namespace Sys2Proof.Machine

/-! ## Commit -/

/-- Steps 1 to 3 of a commit (R105): the active layers become the preset's, the slot empties, the Registration report is
handed to the queue (R106). -/
def commitLayers (p : Fin 16) (c : Condition) (o : Origin) (s : State) : State :=
  offerGeneral (.registration p o c)
    (s.withReg { s.reg with active := s.reg.store[p].layers, activePreset := some p, slot := none })

/-- A commit outside a reversal (R105): steps 1 to 3, then a revoice when the preset has REVOICE set. -/
def commit (p : Fin 16) (c : Condition) (o : Origin) (s : State) : State :=
  let done := commitLayers p c o s
  if done.reg.store[p].revoice then revoice done.attackSide done else done

/-- A change put into the pending slot, in place of any change there (R107, R108). -/
def storeChange (c : Change) (s : State) : State := s.withReg { s.reg with slot := some c }

/-- The pending slot emptied (R110, R115, R116). -/
def emptySlot (s : State) : State := s.withReg { s.reg with slot := none }

/-- A selection in NORMAL (R108, R109): IMMEDIATE commits at once, any other condition waits in the slot. -/
def select (p : Fin 16) (c : Condition) (o : Origin) (s : State) : State :=
  match c with
  | .immediate => commit p c o s
  | .next t => storeChange { preset := p, trigger := t, origin := o } s

/-- A press of a register switch: a selection with origin SWITCH in NORMAL, discarded in CUT (R109). -/
def pressSwitch (k : Fin 192) (s : State) : State :=
  if s.scn.cut then s else select s.imap[k].preset s.imap[k].condition .switch s

/-- Whether a trigger is met by a beat event, a bar event included (R111). -/
def Trigger.metByBeat (isBar : Bool) : Trigger → Bool
  | .beat => true
  | .bar => isBar
  | .reversal => false

/-- A beat event taken by the Registration Unit, marked as a bar event or not (R111). -/
def takeBeat (isBar : Bool) (s : State) : State :=
  match s.reg.slot with
  | some c => if c.trigger.metByBeat isBar then commit c.preset (.next c.trigger) c.origin s else s
  | none => s

/-! ## Reversal (section 8.6) -/

/-- Whether an entry is a NoteOn of a section and pitch made since the creation order stood at `start`. -/
def Entry.isNoteOnSince (start : Nat) (n : Fin 8) (pitch : Nat) (e : Entry) : Bool :=
  match e.report with
  | .noteOn m q _ _ => decide (start ≤ e.order) && m == n && q == pitch
  | _ => false

/-- Whether a SOUNDING voice has taken a serial since the handling of the present reversal began, when the creation order stood at
`start` (R137; log entry 7). Every serial taken comes with a NoteOn of the voice (R119, R131), which waits in the queue as long
as the handling lasts, and no other voice has its section and pitch (R126). -/
def tookSerial (start : Nat) (x : Voice) (s : State) : Bool := s.evq.entries.any (Entry.isNoteOnSince start x.sect x.pitch)

/-- Whether a pair's voice is to be re-articulated at a reversal (R137). -/
def mayRearticulate (start : Nat) (p : Pair) (s : State) : Bool :=
  let x := s.val.voices[p.voice]
  s.reg.active[p.layer].reattack && x.isSounding && decide (s.scn.records[x.sect].lo ≤ x.pitch) &&
    decide (x.pitch ≤ s.scn.records[x.sect].hi) && !tookSerial start x s

/-- A re-articulation: NoteOff, NoteOn, a new serial; the voice stays SOUNDING (R137). -/
def rearticulate (p : Pair) (s : State) : State :=
  let x := s.val.voices[p.voice]
  let off := pushSection x.sect (.noteOff x.sect x.pitch .reversal) s
  let on := pushSection x.sect (.noteOn x.sect x.pitch (attackLevel x.sect s.reg.active[p.layer] s) .reversal) off
  bumpSerial (setVoice p.voice { x with serial := s.nextSerial } on)

/-- One pair of a key whose sets are equal (R137): re-articulated if it may be and if the queue admits it. -/
def carryPair (start : Nat) (p : Pair) (s : State) : State :=
  if mayRearticulate start p s then
    if s.admitsAttack then rearticulate p s else dropAttack s
  else s

/-- A held key carried across a reversal to direction d (R135, R136, R137): re-pitched when its sets differ, else re-articulated
where its layers ask for it. -/
def carryKey (start : Nat) (d : Side) (k : Fin 192) (s : State) : State :=
  match s.heldEntry k with
  | none => s
  | some h =>
    if s.pitchSet k h.side = s.pitchSet k d then
      setSide k d (h.pairs.foldl (fun s p => carryPair start p s) s)
    else reattack .reversal .reversal d k s

/-- Every held key carried across, in key id order (R135). -/
def carryAll (d : Side) (s : State) : State := s.heldKeys.foldl (fun t k => carryKey s.evq.made d k t) s

/-- The Voice Allocator's handling of a reversal to direction d (R135): a NEXT_REVERSAL change is committed first (R112); with
REVOICE set every key is revoiced in direction d (R138), otherwise each key is carried across. -/
def takeReversal (d : Side) (s : State) : State :=
  match s.reg.slot with
  | some c =>
    if c.trigger = .reversal then
      let done := commitLayers c.preset (.next .reversal) c.origin s
      if done.reg.store[c.preset].revoice then revoice d done else carryAll d done
    else carryAll d s
  | none => carryAll d s

/-! ## Requests -/

/-- SelectPreset (R108). -/
def selectRequest (p : List Byte) (s : State) : Answer :=
  let answer (status : Status) (t : State) : Answer :=
    { state := t, status := status, data := p.take 2 ++ byte1 (presetCode t.reg.activePreset) }
  match conditionOfCode (byteAt p 1) with
  | none => answer .refusedValue s
  | some c =>
    if h : byteAt p 0 < 16 then
      if s.scn.cut then answer .refusedCut s
      else
        let t := select ⟨byteAt p 0, h⟩ c .request s
        match c with
        | .immediate => answer .done t
        | .next _ => answer (if s.reg.slot.isSome then .replaced else .accepted) t
    else answer .refusedValue s

/-- CancelPending (R110). -/
def cancelPending (_ : List Byte) (s : State) : Answer :=
  { state := emptySlot s, status := .done, data := slotBytes s.reg.slot }

/-- A layer record of the store replaced (R101). -/
def storeLayer (p : Fin 16) (n : Fin 8) (l : Layer) (s : State) : State :=
  s.withReg
    { s.reg with store := s.reg.store.set p { s.reg.store[p] with layers := s.reg.store[p].layers.set n l } }

/-- WriteLayer (R100, R101). -/
def writeLayer (p : List Byte) (s : State) : Answer :=
  let refused : Answer := { state := s, status := .refusedValue, data := p.take 2 }
  match layerOf (p.drop 2) with
  | none => refused
  | some l =>
    if h : byteAt p 0 < 16 ∧ byteAt p 1 < 8 then
      { state := storeLayer ⟨byteAt p 0, h.1⟩ ⟨byteAt p 1, h.2⟩ l.clamped s
        status := doneOrClamped (l.clamped.transpose != l.transpose)
        data := p.take 2 ++ l.clamped.bytes }
    else refused

/-- ReadLayer (R102): the store with the preset's REVOICE flag, or with a preset field of 16 the active table with the active
preset. -/
def readLayer (p : List Byte) (s : State) : Answer :=
  let refused : Answer := { state := s, status := .refusedValue, data := p.take 2 }
  if hn : byteAt p 1 < 8 then
    if hp : byteAt p 0 < 16 then
      let preset := s.reg.store[byteAt p 0]
      { state := s, status := .done, data := p.take 2 ++ preset.layers[byteAt p 1].bytes ++ byte1 (bitCode preset.revoice) }
    else if byteAt p 0 = 16 then
      { state := s, status := .done
        data := p.take 2 ++ s.reg.active[byteAt p 1].bytes ++ byte1 (presetCode s.reg.activePreset) }
    else refused
  else refused

/-- A preset's REVOICE flag replaced (R103). -/
def storeRevoice (p : Fin 16) (b : Bool) (s : State) : State :=
  s.withReg { s.reg with store := s.reg.store.set p { s.reg.store[p] with revoice := b } }

/-- SetPresetFlags (R103). -/
def setPresetFlags (p : List Byte) (s : State) : Answer :=
  match bitOfCode (byteAt p 1) with
  | none => { state := s, status := .refusedValue, data := p.take 2 }
  | some b =>
    if h : byteAt p 0 < 16 then
      { state := storeRevoice ⟨byteAt p 0, h⟩ b s, status := .done, data := p.take 1 ++ byte1 (bitCode b) }
    else { state := s, status := .refusedValue, data := p.take 2 }

/-- SELECT_PRESET (R108). -/
def execSelectPreset (s : State) : Result := serve 0x0D 2 selectRequest s

/-- CANCELPENDING (R110). -/
def execCancelPending (s : State) : Result := serve 0x0E 0 cancelPending s

/-- WRITELAYER (R100). -/
def execWriteLayer (s : State) : Result := serve 0x0F 11 writeLayer s

/-- READLAYER (R102). -/
def execReadLayer (s : State) : Result := serve 0x10 2 readLayer s

/-- SETPRESETFLAGS (R103). -/
def execSetPresetFlags (s : State) : Result := serve 0x11 2 setPresetFlags s

end Sys2Proof.Machine
end

