-- ==== Sys2Proof/Machine/Bellows.lean ====
section
/-! DEFINITION. The Bellows Unit (chapter 2): sampling, the sensor test, centring, the committed direction, SetBellows and
Calibrate. -/

namespace Sys2Proof.Machine

/-! ## The steps of one sample (R17, R18) -/

/-- The converter's lowest reading (R17). -/
def rawLowest : Int := -2048

/-- The converter's highest reading (R17). -/
def rawHighest : Int := 2047

/-- The raw sample of a pressure difference in converter steps: beyond the span it reads as the nearest end (R17). -/
def rawSample (pressure : Int) : Int := saturate rawLowest rawHighest pressure

/-- Whether a raw sample is at full scale (R25). -/
def fullScale (raw : Int) : Bool := raw == rawLowest || raw == rawHighest

/-- A raw sample added to a collection (R31). -/
def Collection.add (raw : Int) (c : Collection) : Collection :=
  { c with
    count := c.count + 1
    sum := c.sum + raw
    minimum := some (c.minimum.elim raw (min raw))
    maximum := some (c.maximum.elim raw (max raw)) }

/-- The number of samples a calibration collects (R32). -/
def collectionSize : Nat := 64

/-- Step 1: while a Calibrate is in flight the raw sample is added to its collection, up to the 64th (R18, R31). -/
def collect (raw : Int) (s : State) : State :=
  s.withBlu
    { s.blu with
      collection := s.blu.collection.map fun c => if c.count < collectionSize then c.add raw else c }

/-- The full-scale samples in a row that enter a fault (R25). -/
def railLimit : Nat := 32

/-- The samples inside in a row that end a fault (R27). -/
def recoveryLimit : Nat := 16

/-- Entry into SENSOR_FAULT (R25, R31): counts 0, a collection notes the fault, and one Fault report names SENSOR. -/
def enterFault (s : State) : State :=
  offerGeneral (.fault .sensor)
    (s.withBlu
      { s.blu with
        sensor := .fault
        rail := 0
        recovery := 0
        collection := s.blu.collection.map fun c => { c with faultDuring := true } })

/-- The end of a sensor fault (R27). -/
def endFault (b : Bellows) : Bellows :=
  { b with sensor := .ok, rail := 0, recovery := 0, pushRun := 0, pullRun := 0 }

/-- Step 2: the sensor test on the raw sample (R25, R27). -/
def sensorTest (raw : Int) (s : State) : State :=
  match s.blu.sensor with
  | .ok =>
    if fullScale raw then
      if railLimit ≤ s.blu.rail + 1 then enterFault s
      else s.withBlu { s.blu with rail := s.blu.rail + 1 }
    else s.withBlu { s.blu with rail := 0 }
  | .fault =>
    if fullScale raw then s.withBlu { s.blu with recovery := 0 }
    else if recoveryLimit ≤ s.blu.recovery + 1 then s.withBlu (endFault s.blu)
    else s.withBlu { s.blu with recovery := s.blu.recovery + 1 }

/-- The exact difference of a raw sample and the offset (R19). -/
def exactDifference (raw offset : Int) : Int := raw - offset

/-- The centred sample (R19). -/
def centred (raw offset : Int) : Int := saturate rawLowest rawHighest (exactDifference raw offset)

/-- CLIP is set when saturation changed the difference (R19). -/
def clipCentring (raw : Int) (s : State) : State :=
  if centred raw s.blu.offset = exactDifference raw s.blu.offset then s else raiseFlag .clip s

/-- The run counters after a centred sample (R20). -/
def Bellows.count (c : Int) (b : Bellows) : Bellows :=
  { b with
    pushRun := if (b.hysteresis : Int) < c then min (b.pushRun + 1) b.deadTime else 0
    pullRun := if c < -(b.hysteresis : Int) then min (b.pullRun + 1) b.deadTime else 0 }

/-- The direction that run counters commit, if they commit one (R21). -/
def Bellows.commits (b : Bellows) : Option Side :=
  if b.pushRun = b.deadTime ∧ b.direction ≠ some .push then some .push
  else if b.pullRun = b.deadTime ∧ b.direction ≠ some .pull then some .pull
  else none

/-- A commit of direction: both counters become 0 (R21). -/
def Bellows.commitTo (d : Side) (b : Bellows) : Bellows := { b with direction := some d, pushRun := 0, pullRun := 0 }

/-- The direction test on a centred sample (R20, R21). -/
def Bellows.test (c : Int) (b : Bellows) : Bellows :=
  match (b.count c).commits with
  | some d => (b.count c).commitTo d
  | none => b.count c

/-- The reversal that a change of committed direction makes: from PUSH to PULL or back, never from NONE (R21, R22). -/
def reversalOf (before after : Option Side) : Option Side :=
  match before, after with
  | some a, some b => if a = b then none else some b
  | _, _ => none

/-- A reversal handed on: its report to the Event Queue, then the reversal to the Voice Allocator (R23). -/
def handReversal (d : Side) (s : State) : State := takeReversal d (offerGeneral (.reversal d) s)

/-- Steps 4 to 6 for an ordinary sample (R18). -/
def ordinarySample (raw : Int) (s : State) : State :=
  let c := centred raw s.blu.offset
  let clipped := clipCentring raw s
  let tested := clipped.withBlu (clipped.blu.test c)
  let heard := expressionSample (some c) tested
  match reversalOf s.blu.direction tested.blu.direction with
  | some d => handReversal d heard
  | none => heard

/-- One sample, its steps in order (R18); the 64th sample's step 7 is CALIBRATION_END. -/
def processSample (raw : Int) (s : State) : State :=
  let judged := sensorTest raw (collect raw s)
  match judged.blu.sensor with
  | .fault => expressionSample none judged
  | .ok => ordinarySample raw judged

/-- The spacing of samples in ticks (R17). -/
def samplePeriod : Tick := 5

/-- Whether the next conversion has completed (R17). -/
def State.sampleDue (s : State) : Bool := hasCome s.tick s.blu.nextSample

/-- SAMPLE (R17, R18). -/
def execSample (pressure : Int) (s : State) : Result :=
  whileRunning
    (fun s =>
      if s.sampleDue then
        processSample (rawSample pressure) (s.withBlu { s.blu with nextSample := s.blu.nextSample + samplePeriod })
      else s)
    s

/-! ## Calibrate (R30 to R33) -/

/-- A collection at its start (R30). -/
def newCollection (sensor : SensorState) : Collection where
  count := 0
  sum := 0
  minimum := none
  maximum := none
  faultAtStart := sensor == .fault
  faultDuring := false

/-- CALIBRATE (R30, R176): the handler takes the request, a collection starts and the handler becomes IN_FLIGHT, with no reply;
a wrong LEN is answered at once. -/
def execCalibrate (s : State) : Result :=
  takeRequest (fun k => k == 0x03)
    (fun f s =>
      if f.payload.length = 0 then
        (s.withBlu { s.blu with collection := some (newCollection s.blu.sensor) }).withLnk
          { s.lnk with handler := .inFlight f.tag }
      else reply f { state := s, status := .refusedLength, data := [] })
    s

/-- The mean of a collection (R32). -/
def Collection.mean (c : Collection) : Int := c.sum / 64

/-- The spread of a collection (R32). -/
def Collection.spread (c : Collection) : Nat := (c.maximum.getD 0 - c.minimum.getD 0).toNat

/-- The largest offset, either way (R32). -/
def offsetLimit : Int := 255

/-- The outcome of a collection, the first condition that applies, and the offset it leaves (R32). -/
def calibrationOutcome (hysteresis : Nat) (offset : Int) (c : Collection) : Status × Int :=
  if c.faultAtStart || c.faultDuring then (.failedSensor, offset)
  else if 2 * hysteresis < c.spread then (.failedMoved, offset)
  else if offsetLimit < c.mean then (.clamped, offsetLimit)
  else if c.mean < -offsetLimit then (.clamped, -offsetLimit)
  else (.done, c.mean)

/-- The full collection of the Calibrate in flight, with the TAG to answer (R32, R176). -/
def State.calibrationDue (s : State) : Option (Byte × Collection) :=
  match s.lnk.handler, s.blu.collection with
  | .inFlight tag, some c => if collectionSize ≤ c.count then some (tag, c) else none
  | _, _ => none

/-- The end of a calibration: outcome, offset, reply (R32, R33). -/
def endCalibration (tag : Byte) (c : Collection) (s : State) : State :=
  let outcome := calibrationOutcome s.blu.hysteresis s.blu.offset c
  placeReply 0x03 tag outcome.1 (byte2s outcome.2 ++ byte2s c.mean ++ byte2 c.spread)
    (s.withBlu { s.blu with offset := outcome.2, collection := none })

/-- CALIBRATION_END (R32, R33). -/
def execCalibrationEnd (s : State) : Result :=
  whileRunning
    (fun s =>
      match s.calibrationDue with
      | some (tag, c) => endCalibration tag c s
      | none => s)
    s

/-! ## SetBellows and the soft reset -/

/-- SetBellows (R29): H and D clamped and in force; a change of either zeroes the run counters. -/
def setBellows (p : List Byte) (s : State) : Answer :=
  let h := clampNat 4 512 (wordAt p 0)
  let d := clampNat 1 32 (byteAt p 2)
  let same := h == s.blu.hysteresis && d == s.blu.deadTime
  { state :=
      s.withBlu
        { s.blu with
          hysteresis := h
          deadTime := d
          pushRun := if same then s.blu.pushRun else 0
          pullRun := if same then s.blu.pullRun else 0 }
    status := doneOrClamped (h != wordAt p 0 || d != byteAt p 2)
    data := byte2 h ++ byte1 d }

/-- SETBELLOWS (R29). -/
def execSetBellows (s : State) : Result := serve 0x02 3 setBellows s

/-- The soft reset of the Bellows Unit (R24, R35, R36). -/
def softBellows (s : State) : State :=
  s.withBlu { s.blu with direction := none, pushRun := 0, pullRun := 0, collection := none }

end Sys2Proof.Machine
end

