-- ==== Sys2Proof/Machine/Clock.lean ====
section
/-! DEFINITION. The Tempo Clock (chapter 4): click lines, real and synthetic beats, the deadline, bar counting, SetClock. -/

namespace Sys2Proof.Machine

/-! ## Click lines (R56) -/

/-- CLICK_LINE_SAMPLE: BEAT and BAR are each sampled, once per tick (R56). -/
def execClickLineSample (beat bar : Bool) (s : State) : Result :=
  whileRunning
    (fun s =>
      s.withTck { s.tck with beatLine := s.tck.beatLine.sample 1 s.tick beat, barLine := s.tck.barLine.sample 1 s.tick bar })
    s

/-- BAR_EDGE: an accepted BAR edge sets the bar mark (R62). -/
def execBarEdge (s : State) : Result :=
  whileRunning
    (fun s =>
      match s.tck.barLine.takeEdge 1 s.tick with
      | some f => s.withTck { s.tck with barLine := f, barMark := true }
      | none => s)
    s

/-! ## Beat events (R60, R62, R63, R64) -/

/-- The grid time a quarter period late: reference + P + P/4, P/4 rounded down (R60). -/
def deadlineOf (reference : Tick) (period : Nat) : Tick := reference + BitVec.ofNat 32 (period + period / 4)

/-- Whether a clock in this state has a deadline (R60, section 4.3). -/
def ClockPhase.hasDeadline : ClockPhase → Bool
  | .running | .coasting => true
  | .stopped | .starting => false

/-- Beat-in-bar after a beat event, from the clock state before it (R62). -/
def nextBeatInBar (before : ClockPhase) (c : Clock) : Nat :=
  if c.barMark || before == .stopped || decide (c.beatsPerBar ≤ c.beatInBar) then 1 else c.beatInBar + 1

/-- The clock's own changes at a beat event, once its state, P, reference and synthetic count are set: the deadline, beat-in-bar
and the bar mark (R60, R62). -/
def Clock.beat (before : ClockPhase) (c : Clock) : Clock :=
  { c with
    deadline := if c.phase.hasDeadline then some (deadlineOf c.reference c.period) else none
    beatInBar := nextBeatInBar before c
    barMark := false }

/-- A ClockState report when the clock state has changed (R64). -/
def reportPhase (before : ClockPhase) (s : State) : State :=
  if s.tck.phase = before then s else offerGeneral (.clockState s.tck.phase s.tck.period) s

/-- A beat event: the clock's changes, its ClockState report, then the event handed to the Registration Unit, marked as a bar
event when it made beat-in-bar 1 (R63). -/
def beatEvent (before : ClockPhase) (c : Clock) (s : State) : State :=
  let counted := reportPhase before (s.withTck (c.beat before))
  takeBeat (counted.tck.beatInBar == 1) counted

/-- The shortest interval between real beats, and the shortest valid period, in ticks (R57, R58). -/
def shortestBeat : Nat := 2000

/-- The longest valid period, in ticks (R58). -/
def longestBeat : Nat := 20000

/-- Whether an edge now comes too soon after the last real beat (R57). -/
def tooSoon (now : Tick) (c : Clock) : Bool :=
  c.lastReal.any fun t => decide (wrapDiff now t < (shortestBeat : Int))

/-- The valid interval from the last real beat to now, if there is one (R58). -/
def validInterval (now : Tick) (c : Clock) : Option Nat :=
  match c.lastReal with
  | some t =>
    let d := wrapDiff now t
    if (shortestBeat : Int) ≤ d ∧ d ≤ (longestBeat : Int) then some d.toNat else none
  | none => none

/-- The clock state after a real beat (R59). -/
def phaseAfterBeat (before : ClockPhase) (valid : Bool) : ClockPhase :=
  match before with
  | .stopped => .starting
  | .starting => if valid then .running else .starting
  | .running | .coasting => .running

/-- The clock at a real beat now, before the beat event is counted (R57, R58, R59). In STOPPED no interval is measured. -/
def Clock.realBeat (now : Tick) (c : Clock) : Clock :=
  let interval := if c.phase = .stopped then none else validInterval now c
  { c with
    phase := phaseAfterBeat c.phase interval.isSome
    period := interval.getD c.period
    lastReal := some now
    reference := now
    synthetic := 0 }

/-- An accepted BEAT edge: a real beat unless it comes too soon (R57). -/
def acceptBeat (s : State) : State :=
  if tooSoon s.tick s.tck then s else beatEvent s.tck.phase (s.tck.realBeat s.tick) s

/-- BEAT_EDGE (R56, R57, R59, R62, R63). -/
def execBeatEdge (s : State) : Result :=
  whileRunning
    (fun s =>
      match s.tck.beatLine.takeEdge 1 s.tick with
      | some f => acceptBeat (s.withTck { s.tck with beatLine := f })
      | none => s)
    s

/-- Whether 20001 ticks have passed since the last real beat (R57). -/
def State.beatAbsentDue (s : State) : Bool :=
  s.tck.lastReal.any fun t => decide (20001 ≤ wrapDiff s.tick t)

/-- LAST_REAL_BEAT_ABSENT (R57). -/
def execLastRealBeatAbsent (s : State) : Result :=
  whileRunning (fun s => if s.beatAbsentDue then s.withTck { s.tck with lastReal := none } else s) s

/-! ## Deadline (R61) -/

/-- The clock at a synthetic beat, before the beat event is counted (R61). -/
def Clock.syntheticBeat (c : Clock) : Clock :=
  { c with
    synthetic := c.synthetic + 1
    phase := .coasting
    reference := c.reference + BitVec.ofNat 32 c.period }

/-- The clock stopped at a deadline (R61). -/
def Clock.stop (c : Clock) : Clock := { c with phase := .stopped, deadline := none }

/-- The coming of the deadline with no real beat: a synthetic beat while the count is below C, else a stop (R61). -/
def meetDeadline (s : State) : State :=
  if s.tck.synthetic < s.tck.coast then beatEvent s.tck.phase s.tck.syntheticBeat s
  else reportPhase s.tck.phase (s.withTck s.tck.stop)

/-- Whether the deadline has come (R61). -/
def State.deadlineDue (s : State) : Bool := s.tck.deadline.any fun d => hasCome s.tick d

/-- DEADLINE (R61). -/
def execDeadline (s : State) : Result := whileRunning (fun s => if s.deadlineDue then meetDeadline s else s) s

/-! ## SetClock and the soft reset -/

/-- SetClock: B and C clamped and put in force (R65, R66). -/
def setClock (p : List Byte) (s : State) : Answer :=
  let b := clampNat 1 16 (byteAt p 0)
  let c := clampNat 0 8 (byteAt p 1)
  { state := s.withTck { s.tck with beatsPerBar := b, coast := c }
    status := doneOrClamped (b != byteAt p 0 || c != byteAt p 1)
    data := byte1 b ++ byte1 c }

/-- SETCLOCK (R65). -/
def execSetClock (s : State) : Result := serve 0x05 2 setClock s

/-- The soft reset of the clock (R67, R68): the filters and the last real beat are kept. -/
def softClock (s : State) : State :=
  s.withTck
    { s.tck with
      phase := .stopped
      period := 0
      reference := 0
      deadline := none
      synthetic := 0
      barMark := false
      beatInBar := 0 }

end Sys2Proof.Machine
end

