-- ==== Sys2Proof/Machine/Sections.lean ====
section
/-! DEFINITION. Section Control (chapter 6): section records, readiness, the cut and Resume, the CUT line. -/

namespace Sys2Proof.Machine

/-! ## Records -/

/-- A section record replaced (R83). -/
def setRecord (n : Fin 8) (r : SectionRecord) (s : State) : State :=
  s.withScn { s.scn with records := s.scn.records.set n r }

/-- WriteSection (R82, R83): the record is replaced, and a limit below the SOUNDING count steals at once. -/
def writeSection (p : List Byte) (s : State) : Answer :=
  let carried := sectionRecordOf (p.drop 1)
  if h : byteAt p 0 < 8 then
    if rangeLegal carried.lo carried.hi then
      { state := stealToLimit ⟨byteAt p 0, h⟩ (setRecord ⟨byteAt p 0, h⟩ carried.clamped s)
        status := doneOrClamped (carried.clamped != carried)
        data := p.take 1 ++ carried.clamped.bytes }
    else { state := s, status := .refusedValue, data := p.take 1 }
  else { state := s, status := .refusedValue, data := p.take 1 }

/-- ReadSection (R84). -/
def readSection (p : List Byte) (s : State) : Answer :=
  if h : byteAt p 0 < 8 then
    { state := s, status := .done
      data := p.take 1 ++ s.scn.records[byteAt p 0].bytes ++ byte1 s.scn.readiness[byteAt p 0].code }
  else { state := s, status := .refusedValue, data := p.take 1 }

/-! ## Readiness -/

/-- A section's readiness replaced (R85). -/
def setReadiness (n : Fin 8) (r : Readiness) (s : State) : State :=
  s.withScn { s.scn with readiness := s.scn.readiness.set n r }

/-- A section becomes READY, and is reported in NORMAL (R89). -/
def becomeReady (n : Fin 8) (s : State) : State := reportReady n (setReadiness n .ready s)

/-- A section declared not ready (R86): from READY its voices end first. -/
def declareOff (n : Fin 8) (s : State) : State :=
  match s.scn.readiness[n] with
  | .ready => endSection n (setReadiness n .off s)
  | .settling _ | .off => setReadiness n .off s

/-- A section declared ready with a settle time in ms (R87). -/
def declareReady (n : Fin 8) (settle : Nat) (s : State) : State :=
  match s.scn.readiness[n] with
  | .ready => s
  | .settling _ | .off =>
    if settle = 0 then becomeReady n s
    else setReadiness n (.settling (s.tick + BitVec.ofNat 32 (ticksOfMs settle))) s

/-- SectionReady (R86, R87). -/
def sectionReady (p : List Byte) (s : State) : Answer :=
  match bitOfCode (byteAt p 1) with
  | none => { state := s, status := .refusedValue, data := p.take 1 }
  | some ready =>
    if h : byteAt p 0 < 8 then
      let n : Fin 8 := ⟨byteAt p 0, h⟩
      let t := if ready then declareReady n (byteAt p 2) s else declareOff n s
      { state := t, status := .done, data := p.take 1 ++ byte1 t.scn.readiness[n].code }
    else { state := s, status := .refusedValue, data := p.take 1 }

/-- SETTLE_EXPIRY: the SETTLING section whose expiry has come becomes READY (R88). -/
def execSettleExpiry (number : Nat) (s : State) : Result :=
  whileRunning
    (fun s =>
      if h : number < 8 then
        match s.scn.readiness[number] with
        | .settling expiry => if hasCome s.tick expiry then becomeReady ⟨number, h⟩ s else s
        | .off | .ready => s
      else s)
    s

/-! ## Cut and Resume -/

/-- The cause an AllOff carries for a cut (R156). -/
def CutCause.allOff : CutCause → AllOffCause
  | .line => .line
  | .request => .request

/-- The cut record written (R91). -/
def setCutRecord (cause : Option CutCause) (voices : Nat) (s : State) : State :=
  s.withScn { s.scn with cutCause := cause, cutVoices := voices }

/-- The cut state replaced. -/
def setCut (b : Bool) (s : State) : State := s.withScn { s.scn with cut := b }

/-- A cut, its six parts in order (R91). -/
def beginCut (cause : CutCause) (s : State) : State :=
  let cut := setCut true s
  let recorded := setCutRecord (some cause) cut.liveVoices (endAllVoices cut)
  closeAccent (emptySlot (purgeForCut cause.allOff recorded))

/-- A cut taken in NORMAL; in CUT nothing changes (R90, R92). -/
def cutIfNormal (cause : CutCause) (s : State) : State := if s.scn.cut then s else beginCut cause s

/-- The Cut request (R92). -/
def cutRequest (_ : List Byte) (s : State) : Answer :=
  let t := cutIfNormal .request s
  { state := t, status := .done
    data := byte1 (bitCode t.scn.cut) ++ byte1 (cutCauseCode t.scn.cutCause) ++ byte1 t.scn.cutVoices }

/-- Resume (R94). -/
def resume (_ : List Byte) (s : State) : Answer :=
  if s.scn.cut then
    if s.scn.lastCut then { state := s, status := .refusedCutHeld, data := byte1 (bitCode s.scn.cut) }
    else
      let t := reportAllReady (setCut false s)
      { state := t, status := .done, data := byte1 (bitCode t.scn.cut) }
  else { state := s, status := .done, data := byte1 (bitCode s.scn.cut) }

/-- CUT_LINE_SAMPLE (R90), once per tick: the level becomes the last CUT sample and the filter takes it. -/
def execCutLineSample (high : Bool) (s : State) : Result :=
  whileRunning
    (fun s =>
      if s.scn.cutLine.wants s.tick then
        s.withScn { s.scn with lastCut := high, cutLine := s.scn.cutLine.sample 2 s.tick high }
      else s)
    s

/-- CUT_EDGE (R90, R91): an accepted edge cuts with cause LINE in NORMAL and is ignored in CUT. When the command stands for the
accepting sample itself, that sample was high. -/
def execCutEdge (s : State) : Result :=
  whileRunning
    (fun s =>
      match s.scn.cutLine.takeEdge 2 s.tick with
      | some f =>
        cutIfNormal .line
          (s.withScn { s.scn with cutLine := f, lastCut := s.scn.lastCut || !s.scn.cutLine.accepted })
      | none => s)
    s

/-- The cut state and cut record after a soft reset, from the last CUT sample (R95). -/
def softSections (s : State) : State :=
  setCutRecord (if s.scn.lastCut then some .line else none) 0 (setCut s.scn.lastCut s)

/-- WRITESECTION (R82). -/
def execWriteSection (s : State) : Result := serve 0x08 18 writeSection s

/-- READSECTION (R84). -/
def execReadSection (s : State) : Result := serve 0x09 1 readSection s

/-- SECTIONREADY (R86, R87). -/
def execSectionReady (s : State) : Result := serve 0x0A 3 sectionReady s

/-- CUT_REQUEST (R92). -/
def execCutRequest (s : State) : Result := serve 0x0B 0 cutRequest s

/-- RESUME (R94). -/
def execResume (s : State) : Result := serve 0x0C 0 resume s

end Sys2Proof.Machine
end

