-- ==== Sys2Proof/Machine/Resets.lean ====
section
/-! DEFINITION. Hard reset (R158, R180) and the Reset request (R157, R179). -/

namespace Sys2Proof.Machine

/-- What a hard reset stops at once: the frame being sent and the scan in progress (R2, R180). -/
def stopForReset (s : State) : State :=
  (s.withLnk { s.lnk with transmitter := .idle }).withKsc { s.ksc with scanning := false }

/-- The cause a hard reset carries when another comes before its release: a power-on stays a power-on (log entry 9). -/
def resetCauseAfter (present : Option ResetCause) (new : ResetCause) : ResetCause :=
  if present = some .power then .power else new

/-- HARD_RESET (R180): RESET goes low or power is applied; what is in progress stops at once, and no event of the part comes about
until release. -/
def execHardReset (cause : ResetCause) (s : State) : Result :=
  let stopped := stopForReset s
  .next { stopped with inReset := some (resetCauseAfter s.inReset cause) }

/-- RESET_RELEASE (R158, R166, R180): every block takes its hard reset values, LSEL1, LSEL0 and CUT are sampled, and Started is
placed. Without a hard reset in progress there is nothing to release. -/
def execResetRelease (lsel1 lsel0 cut : Bool) (s : State) : Result :=
  match s.inReset with
  | some cause => .next (State.released cause (rateOf lsel1 lsel0) cut s.picks s.pending)
  | none => .next s

/-- The soft reset of the Status Unit: every flag clear, every counter 0 (R189). -/
def softStatus (s : State) : State := s.withStu hardStatus

/-- The blocks' soft-reset actions, then the Event Queue's purge (R157, R179). The Key Scanner, the map and the section records have
none (R14, R79, R96). -/
def softReset (s : State) : State :=
  purgeForReset
    (softStatus (softAllocator (emptySlot (softSections (softClock (softExpression (softBellows s)))))))

/-- RESET (R179): the reply Done is placed first, then the soft reset follows within the same event. -/
def execReset (s : State) : Result :=
  takeRequest (fun k => k == 0x14)
    (fun f s =>
      if f.payload.length = 0 then softReset (reply f { state := s, status := .done, data := [] })
      else reply f { state := s, status := .refusedLength, data := [] })
    s

end Sys2Proof.Machine
end

