-- ==== Sys2Proof/Machine/Scanner.lean ====
section
/-! DEFINITION. The Key Scanner (chapter 1): scans, debounce filters, key events and their routing, scan settings and the
re-initialisation window. -/

namespace Sys2Proof.Machine

/-! ## Scan cycle (R1, R2) -/

/-- Whether a scan boundary has come with settings to put in force: no scan is in progress and the recorded values differ from
those in force (R11). -/
def Scanner.boundaryDue (k : Scanner) : Bool :=
  !k.scanning && (k.recPeriod != k.period || k.recAgreement != k.agreement)

/-- Whether a scan start has come: the last start plus the period in force, at once for the first scan and when that tick has
already come (R2, R11). Settings that wait for a boundary come into force before it. -/
def State.scanDue (s : State) : Bool :=
  !s.ksc.scanning && !s.ksc.boundaryDue &&
    match s.ksc.lastStart with
    | none => true
    | some t => hasCome s.tick (t + BitVec.ofNat 32 s.ksc.period)

/-- A scan begins (R1, R2). -/
def startScan (s : State) : State := s.withKsc { s.ksc with scanning := true, lastStart := some s.tick }

/-- SCAN_START (R2). -/
def execScanStart (s : State) : Result := whileRunning (fun s => if s.scanDue then startScan s else s) s

/-- The reading of a key in a scan: key id 12 a + b is drive line a, sense line b; true is CLOSED (R1). -/
def readingOf (r : Readings) (k : Fin 192) : Bool :=
  (r.toList.getD (k.val / 12) 0).getLsbD (k.val % 12)

/-! ## Debounce (R3) -/

/-- Whether a filter's next opposite reading changes its state: its count stands at N - 1 (R3). -/
def KeyFilter.ripe (n : Nat) (f : KeyFilter) : Bool := decide (n ≤ f.count + 1)

/-- A filter after one reading, outside a window (R3). -/
def KeyFilter.update (n : Nat) (closed : Bool) (f : KeyFilter) : KeyFilter :=
  if closed == f.down then { f with count := 0 }
  else if f.ripe n then { down := closed, count := 0 }
  else { f with count := f.count + 1 }

/-- Whether a reading changes a filter's state, and so makes a key event (R3). -/
def KeyFilter.turns (n : Nat) (closed : Bool) (f : KeyFilter) : Bool := closed != f.down && f.ripe n

/-- A key event: a press or a release of a key; its time is the scan's completion (R5). -/
structure KeyEvent where
  key : Fin 192
  press : Bool

/-- The key events of a scan, in ascending key id (R5). -/
def keyEvents (r : Readings) (k : Scanner) : List KeyEvent :=
  (List.finRange 192).filterMap fun i =>
    if k.filters[i].turns k.agreement (readingOf r i) then some { key := i, press := readingOf r i } else none

/-! ## Routing (R7, R8) -/

/-- A press routed by the class the key has now (R7). -/
def routePress (k : Fin 192) (s : State) : State :=
  match s.imap[k].cls with
  | .treble | .bassSingle | .bassChord => press k s
  | .register => pressSwitch k s
  | .unused => s

/-- A release routed: to the Voice Allocator when the held-key table lists the key, else by class (R8). -/
def routeRelease (k : Fin 192) (s : State) : State :=
  if s.isHeld k || isPlaying s.imap[k].cls then release k s else s

/-- A key event routed (R7, R8). -/
def routeEvent (s : State) (e : KeyEvent) : State := if e.press then routePress e.key s else routeRelease e.key s

/-! ## Completion (R3, R5, R13) -/

/-- The scanner after a completion outside a window (R3). -/
def Scanner.filtered (r : Readings) (k : Scanner) : Scanner :=
  { k with
    scanning := false
    filters := Vector.ofFn fun i : Fin 192 => k.filters[i].update k.agreement (readingOf r i) }

/-- The scanner after the completion of a scan that a window covers: counts stay 0, states are kept, and one scan fewer is left
to cover (R13). -/
def Scanner.windowed (left : Nat) (k : Scanner) : Scanner :=
  { k with
    scanning := false
    window := some left
    filters := k.filters.map fun f => { f with count := 0 } }

/-- The key events of a scan routed in order, one taken before the next is routed (R5); a WriteKeys that waits may be taken
between two of them, after as many events as the sender says (R75; log entry 21). -/
def routeEvents (writeAfter : Option Nat) (es : List KeyEvent) (s : State) : State :=
  match writeAfter with
  | none => es.foldl routeEvent s
  | some n => (es.drop n).foldl routeEvent (takeWriteKeys ((es.take n).foldl routeEvent s))

/-- A scan completes with its readings (R3, R5, R13). The events do not read the filters, so updating all of these before the
first event is routed is the order of R3 and R5. -/
def completeScan (r : Readings) (writeAfter : Option Nat) (s : State) : State :=
  match s.ksc.window with
  | some (left + 1) => s.withKsc (s.ksc.windowed left)
  | some 0 | none => routeEvents writeAfter (keyEvents r s.ksc) (s.withKsc (s.ksc.filtered r))

/-- Whether the scan in progress has lasted its 2 ticks (R1). -/
def State.scanOver (s : State) : Bool :=
  s.ksc.scanning && s.ksc.lastStart.any fun t => decide (2 ≤ wrapDiff s.tick t)

/-- SCAN_COMPLETION (R3, R5, R13). -/
def execScanCompletion (scan : ScanResult) (s : State) : Result :=
  whileRunning (fun s => if s.scanOver then completeScan scan.readings scan.writeAfter s else s) s

/-! ## Settings and the window (R10 to R13) -/

/-- The recorded settings come into force, every agreement count becomes 0, and a window of N scans opens (R11, R12). -/
def Scanner.applySettings (k : Scanner) : Scanner :=
  { k with
    period := k.recPeriod
    agreement := k.recAgreement
    window := some k.recAgreement
    filters := k.filters.map fun f => { f with count := 0 } }

/-- A scan boundary: recorded settings that differ from those in force come into force (R11). -/
def Scanner.meetBoundary (k : Scanner) : Scanner := if k.boundaryDue then k.applySettings else k

/-- SCAN_BOUNDARY (R11, R12): the boundary at the completion of a scan. -/
def execScanBoundary (s : State) : Result := whileRunning (fun s => s.withKsc s.ksc.meetBoundary) s

/-- Whether an open window has covered all its scans (R12, R13). -/
def Scanner.windowOver (k : Scanner) : Bool := k.window == some 0

/-- REINITIALISATION_WINDOW_END (R13). -/
def execReinitialisationWindowEnd (s : State) : Result :=
  whileRunning (fun s => if s.ksc.windowOver then s.withKsc { s.ksc with window := none } else s) s

/-- The period a period field gives against the one recorded, none when it is refused (R10). -/
def periodOf (recorded field : Nat) : Option Nat :=
  if field = 0 then some recorded
  else if field = 5 ∨ field = 10 ∨ field = 20 then some field
  else none

/-- The agreement number an agreement field gives against the one recorded (R10). -/
def agreementOf (recorded field : Nat) : Nat := if field = 0 then recorded else clampNat 2 4 field

/-- Values recorded by a SetScan (R10, R11). With no scan in progress the scan boundary is at once; a boundary that a completed scan
has brought and SCAN_BOUNDARY has not met yet comes before it. -/
def Scanner.record (period n : Nat) (k : Scanner) : Scanner :=
  Scanner.meetBoundary { k.meetBoundary with recPeriod := period, recAgreement := n }

/-- SetScan (R10): the values are recorded and come into force at the next scan boundary (R11). -/
def setScan (p : List Byte) (s : State) : Answer :=
  match periodOf s.ksc.recPeriod (byteAt p 0) with
  | none => { state := s, status := .refusedValue, data := p.take 2 }
  | some period =>
    let n := agreementOf s.ksc.recAgreement (byteAt p 1)
    { state := s.withKsc (s.ksc.record period n)
      status := doneOrClamped (byteAt p 1 != 0 && n != byteAt p 1)
      data := byte1 period ++ byte1 n }

/-- SETSCAN (R10). -/
def execSetScan (s : State) : Result := serve 0x01 2 setScan s

end Sys2Proof.Machine
end

