-- ==== Sys2Proof/Machine/StatusRequests.lean ====
section
/-! DEFINITION. The Status Unit's requests (chapter 11): Status and ClearFlags. -/

namespace Sys2Proof.Machine

/-- The SOUNDING counts of sections 0 to 7 (R187). -/
def State.soundingCounts (s : State) : List Byte :=
  (List.finRange 8).map fun n => BitVec.ofNat 8 (s.soundingIn n)

/-- The status summary, 35 bytes (R183, R187). -/
def State.summary (s : State) : List Byte :=
  byte1 (bitCode s.scn.cut) ++ byte1 (cutCauseCode s.scn.cutCause) ++ byte1 s.scn.cutVoices ++
    byte1 (presetCode s.reg.activePreset) ++ slotBytes s.reg.slot ++ byte1 (directionCode s.blu.direction) ++
    byte1 s.blu.sensor.code ++ byte1 s.tck.phase.code ++ byte2 s.tck.period ++ byte1 s.tck.beatInBar ++
    s.soundingCounts ++ byte1 s.releasingTotal ++ byte1 s.val.held.length ++ byte1 s.fill ++
    byte2s s.blu.offset ++ [s.stu.sticky] ++ [s.liveFlags] ++
    byte1 s.stu.frameCount ++ byte1 s.stu.lengthCount ++ byte1 s.stu.gapCount ++ byte1 s.stu.checkCount ++
    byte1 s.stu.overrunCount ++ byte2 s.stu.dropAttackCount

/-- Status (R187). -/
def statusRequest (_ : List Byte) (s : State) : Answer := { state := s, status := .done, data := s.summary }

/-- ClearFlags (R188). -/
def clearFlags (p : List Byte) (s : State) : Answer :=
  let u := s.stu.clear (p.getD 0 0)
  { state := s.withStu u, status := .done, data := [u.sticky] }

/-- STATUS (R187). -/
def execStatus (s : State) : Result := serve 0x12 0 statusRequest s

/-- CLEARFLAGS (R188). -/
def execClearFlags (s : State) : Result := serve 0x13 1 clearFlags s

end Sys2Proof.Machine
end

