-- ==== Sys2Proof/Machine/Dispatch.lean ====
section
/-! DEFINITION. One arm for each command, in the table's order, each one direct call of its meaning. -/

namespace Sys2Proof.Machine

def exec (i : Instr) (s : State) : Host.Outcome State Fault Refusal :=
  match i with
  | .hardReset cause => Sys2Proof.Machine.execHardReset cause s
  | .resetRelease lsel1 lsel0 cut => Sys2Proof.Machine.execResetRelease lsel1 lsel0 cut s
  | .scanStart => Sys2Proof.Machine.execScanStart s
  | .scanCompletion scan => Sys2Proof.Machine.execScanCompletion scan s
  | .scanBoundary => Sys2Proof.Machine.execScanBoundary s
  | .reinitialisationWindowEnd => Sys2Proof.Machine.execReinitialisationWindowEnd s
  | .sample pressure => Sys2Proof.Machine.execSample pressure s
  | .calibrationEnd => Sys2Proof.Machine.execCalibrationEnd s
  | .beatEdge => Sys2Proof.Machine.execBeatEdge s
  | .barEdge => Sys2Proof.Machine.execBarEdge s
  | .lastRealBeatAbsent => Sys2Proof.Machine.execLastRealBeatAbsent s
  | .deadline => Sys2Proof.Machine.execDeadline s
  | .cutEdge => Sys2Proof.Machine.execCutEdge s
  | .settleExpiry number => Sys2Proof.Machine.execSettleExpiry number s
  | .releaseExpiry voice => Sys2Proof.Machine.execReleaseExpiry voice s
  | .byteArrival value stopLow => Sys2Proof.Machine.execByteArrival value stopLow s
  | .gap => Sys2Proof.Machine.execGap s
  | .frameComplete => Sys2Proof.Machine.execFrameComplete s
  | .unknownRequest => Sys2Proof.Machine.execUnknownRequest s
  | .setScan => Sys2Proof.Machine.execSetScan s
  | .setBellows => Sys2Proof.Machine.execSetBellows s
  | .calibrate => Sys2Proof.Machine.execCalibrate s
  | .setExpression => Sys2Proof.Machine.execSetExpression s
  | .setClock => Sys2Proof.Machine.execSetClock s
  | .writeKeys => Sys2Proof.Machine.execWriteKeys s
  | .readKeys => Sys2Proof.Machine.execReadKeys s
  | .writeSection => Sys2Proof.Machine.execWriteSection s
  | .readSection => Sys2Proof.Machine.execReadSection s
  | .sectionReady => Sys2Proof.Machine.execSectionReady s
  | .cutRequest => Sys2Proof.Machine.execCutRequest s
  | .resume => Sys2Proof.Machine.execResume s
  | .selectPreset => Sys2Proof.Machine.execSelectPreset s
  | .cancelPending => Sys2Proof.Machine.execCancelPending s
  | .writeLayer => Sys2Proof.Machine.execWriteLayer s
  | .readLayer => Sys2Proof.Machine.execReadLayer s
  | .setPresetFlags => Sys2Proof.Machine.execSetPresetFlags s
  | .status => Sys2Proof.Machine.execStatus s
  | .clearFlags => Sys2Proof.Machine.execClearFlags s
  | .reset => Sys2Proof.Machine.execReset s
  | .transmit => Sys2Proof.Machine.execTransmit s
  | .frameSent => Sys2Proof.Machine.execFrameSent s
  | .cutLineSample high => Sys2Proof.Machine.execCutLineSample high s
  | .clickLineSample beat bar => Sys2Proof.Machine.execClickLineSample beat bar s

end Sys2Proof.Machine
end

