-- ==== Sys2Proof/Machine/DueEvents.lean ====
section
/-! DEFINITION. The part's own events: which commands of the table the part takes by itself at the present tick, because a time
has come, or because something it tests has changed. Events that bring something from outside (readings, samples, line
levels, bytes, a sent frame, reset) are not among them. -/

namespace Sys2Proof.Machine

/-- A command when its condition holds. -/
def dueWhen (b : Bool) (i : Instr) : List Instr := if b then [i] else []

/-- The command that takes a request of a KIND (R182). -/
def requestCommand (k : Byte) : Instr :=
  match k.toNat with
  | 0x01 => .setScan
  | 0x02 => .setBellows
  | 0x03 => .calibrate
  | 0x04 => .setExpression
  | 0x05 => .setClock
  | 0x06 => .writeKeys
  | 0x07 => .readKeys
  | 0x08 => .writeSection
  | 0x09 => .readSection
  | 0x0A => .sectionReady
  | 0x0B => .cutRequest
  | 0x0C => .resume
  | 0x0D => .selectPreset
  | 0x0E => .cancelPending
  | 0x0F => .writeLayer
  | 0x10 => .readLayer
  | 0x11 => .setPresetFlags
  | 0x12 => .status
  | 0x13 => .clearFlags
  | 0x14 => .reset
  | _ => .unknownRequest

/-- The request the handler takes as soon as it may (R173). -/
def State.requestDue (s : State) : List Instr :=
  match s.nextRequest with
  | some f => [requestCommand f.kind]
  | none => []

/-- Whether an IDLE transmitter has something to take (R177). -/
def State.transmitDue (s : State) : Bool :=
  s.lnk.transmitter == .idle && (s.lnk.slot.isSome || (s.evq.entries.head?.any fun e => e.isDue s.tick))

/-- The sections whose settle expiry has come (R88). -/
def State.settleDue (s : State) : List Instr :=
  ((List.finRange 8).filter fun n =>
    match s.scn.readiness[n] with
    | .settling t => hasCome s.tick t
    | .off | .ready => false).map fun n => .settleExpiry n.val

/-- The voices whose release expiry has come (R134). -/
def State.releaseDue (s : State) : List Instr :=
  ((List.finRange 48).filter fun v =>
    match s.val.voices[v].state with
    | .releasing t => hasCome s.tick t
    | .free | .sounding => false).map fun v => .releaseExpiry v.val

/-- The events that end what has just happened, and so come before any other: the end of a calibration is a step of its 64th sample
(R18), and the end of a window and the scan boundary stand at the completion of a scan (R11, R13). -/
def State.closingEvents (s : State) : List Instr :=
  dueWhen s.calibrationDue.isSome .calibrationEnd ++ dueWhen s.ksc.windowOver .reinitialisationWindowEnd ++
    dueWhen s.ksc.boundaryDue .scanBoundary

/-- The other events of the part that are due now, in no order. -/
def State.openEvents (s : State) : List Instr :=
  dueWhen (frameIsComplete s.heldBytes) .frameComplete ++
      dueWhen s.scanDue .scanStart ++ dueWhen s.tck.beatLine.accepted .beatEdge ++
      dueWhen s.tck.barLine.accepted .barEdge ++ dueWhen s.scn.cutLine.accepted .cutEdge ++
      dueWhen s.deadlineDue .deadline ++ dueWhen s.beatAbsentDue .lastRealBeatAbsent ++ s.settleDue ++ s.releaseDue ++
      dueWhen s.gapDue .gap ++ s.requestDue ++ dueWhen s.transmitDue .transmit

/-- The events of the part from which the next is taken now; none while RESET is low. -/
def State.dueEvents (s : State) : List Instr :=
  if s.running then if s.closingEvents = [] then s.openEvents else s.closingEvents else []

/-- The event that is taken next among those due, the choice among several being free (log entry 5). -/
def State.pickDue (s : State) : Option Instr :=
  match s.dueEvents with
  | [] => none
  | [i] => some i
  | i :: rest => some ((i :: rest).getD (Config.pick s.picks % (i :: rest).length) i)

/-- Whether something that the world brings at this tick has not come yet: a line's sample (R56, R90), the completion of a
conversion (R17), the completion of a scan (R1). -/
def State.awaitsWorld (s : State) : Bool :=
  s.tck.beatLine.wants s.tick || s.tck.barLine.wants s.tick || s.scn.cutLine.wants s.tick || s.sampleDue || s.scanOver

/-- One tick passes (spec/00_scope.md, 2.1). It does not pass before the world has brought what belongs to the present tick
(log entry 5), and while RESET is low the time base stands (R158). -/
def passTick (s : State) : State :=
  if s.running && !s.awaitsWorld then { s with tick := s.tick + 1, evq := s.evq.atTick (s.tick + 1) } else s

end Sys2Proof.Machine
end

