-- ==== Sys2Proof/Machine/Step.lean ====
section
/-! DEFINITION. One step of the block: the command at the front of the queue, or, on an empty queue, the part's own time. -/

namespace Sys2Proof.Machine

/-- On an empty queue the part takes one of its own events that are due, and when none is due one tick passes, or the part waits for
what the world brings at this tick (DESIGN CHOICE, log entry 5). -/
def idle (s : State) : Host.Outcome State Fault Refusal :=
  match s.pickDue with
  | some i => exec i { s with picks := s.picks + 1 }
  | none => .next (passTick s)

/-- One step: the command at the front of the queue is taken and carried out with the queue's rest. -/
def step (s : State) : Host.Outcome State Fault Refusal :=
  match s.pending with
  | c :: rest => exec c { s with pending := rest }
  | [] => idle s

/-- `s` with the command that a word spells put at the front of its queue; no word spells one (Decode.lean). -/
def State.withFetchWord (s : State) (nbits w : Nat) : State :=
  match decodeTableWord nbits w with
  | some c => { s with pending := c :: s.pending }
  | none => s

end Sys2Proof.Machine
end

