-- ==== Sys2Proof/Safety.lean ====
section
/-! DEFINITION. What counts as a lawful state: the laws of the part that the chapters name, as predicates of one state, and the words
the statements share for a request taken and its reply. -/

namespace Sys2Proof.Machine

/-! ## The laws of the part -/

/-- R93, R107, R131, R45, R48 in CUT: no key held, no voice live, the slot empty, the accent window closed, and no NoteOn, NoteOff or
Dynamic report waiting. -/
abbrev SilentInCut (s : State) : Prop :=
  s.scn.cut = true →
    s.val.held = [] ∧ (∀ v : Fin 48, s.val.voices[v].state = .free) ∧ s.reg.slot = none ∧ s.exu.accentCount = 0 ∧
      ∀ e ∈ s.evq.entries, e.report.section? = none

/-- R6: every key the held-key table lists is DOWN. -/
abbrev HeldKeysDown (s : State) : Prop := ∀ h ∈ s.val.held, s.ksc.filters[h.key].down = true

/-- R120: at most 24 entries, in ascending key id and so never two for one key; no list longer than 16 or with a voice twice. -/
abbrev HeldTableLegal (s : State) : Prop :=
  (s.val.held.map HeldKey.key).Pairwise (· < ·) ∧ s.val.held.length ≤ 24 ∧
    ∀ h ∈ s.val.held, h.pairs.length ≤ 16 ∧ (h.pairs.map Pair.voice).Nodup

/-- The number of held-key entries that list a voice (R118). -/
def State.listings (v : Fin 48) (s : State) : Nat := s.val.held.countP fun h => listHolds h.pairs v

/-- R118, R121: the holder count is the number of entries that list the voice, and a voice is SOUNDING exactly when one does. -/
abbrev HoldersLegal (s : State) : Prop :=
  ∀ v : Fin 48, s.val.voices[v].holders = s.listings v ∧ (s.val.voices[v].state = .sounding ↔ 0 < s.listings v)

/-- R152: the free entries are never fewer than the SOUNDING voices. -/
abbrev ReserveKept (s : State) : Prop := s.fill + s.soundingTotal ≤ queueSize

/-- R6, R120, R121 and R152 together. -/
abbrev TablesLawful (s : State) : Prop := HeldKeysDown s ∧ HeldTableLegal s ∧ HoldersLegal s ∧ ReserveKept s

/-- R126: no two voices that are not FREE have the same section and pitch. -/
abbrev VoicesDistinct (s : State) : Prop :=
  ∀ v w : Fin 48, s.val.voices[v].state ≠ .free → s.val.voices[w].state ≠ .free →
    s.val.voices[v].sect = s.val.voices[w].sect → s.val.voices[v].pitch = s.val.voices[w].pitch → v = w

/-- R85: no voice of a section that is not READY is live. -/
abbrev VoicesInReady (s : State) : Prop :=
  ∀ v : Fin 48, s.val.voices[v].state ≠ .free → s.scn.readiness[s.val.voices[v].sect] = .ready

/-- R128: the SOUNDING count of a section never exceeds its polyphony limit, which is at least 1 (R80). -/
abbrev LimitsKept (s : State) : Prop :=
  ∀ n : Fin 8, 1 ≤ s.scn.records[n].polyphony ∧ s.soundingIn n ≤ s.scn.records[n].polyphony

/-- R126, R85 and R128 together. -/
abbrev VoicesLawful (s : State) : Prop := VoicesDistinct s ∧ VoicesInReady s ∧ LimitsKept s

/-- A curve of nine levels (R80). -/
abbrev CurveLegal (c : Vector Nat 9) : Prop := ∀ i : Fin 9, c.get i ≤ 255

/-- R37, R44: force and smoothed force within 0 to 4095, levels within 0 to 255; with the curves, whose points are 0 to 255 (R80), and
the history (R41), from which these follow. -/
abbrev LevelsInRange (s : State) : Prop :=
  s.exu.force ≤ 4095 ∧ s.exu.smoothed ≤ 4095 ∧ s.exu.history.length = 8 ∧ (∀ f ∈ s.exu.history, f ≤ 4095) ∧
    (∀ n : Fin 8, s.exu.sections[n].level ≤ 255 ∧ s.exu.sections[n].last ≤ 255 ∧ CurveLegal s.exu.sections[n].curve) ∧
    ∀ n : Fin 8, CurveLegal s.scn.records[n].curve

/-- The ranges of the bellows state (table at the head of chapter 2, R20, R25, R27, R29, R32). -/
abbrev BellowsLegal (s : State) : Prop :=
  (-255 ≤ s.blu.offset ∧ s.blu.offset ≤ 255) ∧ (4 ≤ s.blu.hysteresis ∧ s.blu.hysteresis ≤ 512) ∧
    (1 ≤ s.blu.deadTime ∧ s.blu.deadTime ≤ 32) ∧ s.blu.pushRun ≤ s.blu.deadTime ∧ s.blu.pullRun ≤ s.blu.deadTime ∧
    (s.blu.pushRun = 0 ∨ s.blu.pullRun = 0) ∧ s.blu.rail < 32 ∧ s.blu.recovery < 16

/-- The ranges of the clock's state (table at the head of chapter 4): P, the counts, and a deadline exactly in RUNNING and
COASTING. -/
abbrev ClockLegal (s : State) : Prop :=
  (s.tck.period = 0 ∨ (2000 ≤ s.tck.period ∧ s.tck.period ≤ 20000)) ∧ s.tck.synthetic ≤ 8 ∧ s.tck.beatInBar ≤ 16 ∧
    (1 ≤ s.tck.beatsPerBar ∧ s.tck.beatsPerBar ≤ 16) ∧ s.tck.coast ≤ 8 ∧
    (s.tck.deadline.isSome = true ↔ (s.tck.phase = .running ∨ s.tck.phase = .coasting)) ∧
    (s.tck.phase = .running ∨ s.tck.phase = .coasting → s.tck.period ≠ 0)

/-- The handler and its slot (R173, R176): the slot holds a reply exactly in REPLY_PENDING, a collection is in progress exactly in
IN_FLIGHT, and at most four frames wait. -/
abbrev HandlerLegal (s : State) : Prop :=
  (s.lnk.slot.isSome = true ↔ s.lnk.handler = .replyPending) ∧
    (s.blu.collection.isSome = true ↔ ∃ tag, s.lnk.handler = .inFlight tag) ∧ s.lnk.inbound.length ≤ 4

/-- R151: at most one Dynamic entry for each section. -/
abbrev DynamicsSingle (s : State) : Prop := ∀ n : Fin 8, s.evq.entries.countP (Entry.isDynamicOf n) ≤ 1

/-- R148, R159: an AllOff stands at the head alone; the other entries stand in due-tick order, those of one due tick in creation
order, and those of one section in creation order. -/
abbrev QueueOrdered (s : State) : Prop :=
  s.evq.entries.Pairwise fun a b =>
    b.isAllOff = false ∧
      (a.isAllOff = false →
        0 ≤ (b.due - a.due).toInt ∧ (a.due = b.due → a.order < b.order) ∧
          (a.report.section? ≠ none → a.report.section? = b.report.section? → a.order < b.order))

/-- What keeps the queue in order (R80, R147, R149): creation orders below the next one, alignments of at most 400 ticks, a last-due
that has not come at most 400 ticks ahead, and no entry of a section due later than the section's last-due or, when that has
come, than now. -/
abbrev DuesLawful (s : State) : Prop :=
  (∀ e ∈ s.evq.entries, e.order < s.evq.made) ∧ (∀ n : Fin 8, s.scn.records[n].alignment ≤ 400) ∧
    (∀ n : Fin 8, s.evq.ahead[n] = true →
      0 < (s.evq.lastDue[n] - s.tick).toInt ∧ (s.evq.lastDue[n] - s.tick).toInt ≤ 400) ∧
    ∀ e ∈ s.evq.entries, ∀ n, e.report.section? = some n →
      0 ≤ ((if s.evq.ahead[n] = true then s.evq.lastDue[n] else s.tick) - e.due).toInt

/-- R148: every due tick in the queue lies near now, so that wrap-aware comparison orders them; the transmitter, which takes entries
as they come due, sees to that. -/
abbrev DuesNear (s : State) : Prop := ∀ e ∈ s.evq.entries, -1000000 ≤ (e.due - s.tick).toInt ∧ (e.due - s.tick).toInt ≤ 1000000

/-! ## Words for requests -/

/-- The handler is about to take this frame: the part runs, the handler is IDLE and the frame is the oldest that waits (R173). -/
abbrev State.offers (s : State) (kind tag : Byte) (payload : List Byte) (rest : List Frame) : Prop :=
  s.inReset = none ∧ s.lnk.handler = .idle ∧ s.lnk.inbound = { kind := kind, tag := tag, payload := payload } :: rest

/-- The link after a request was taken and answered (R173, R174, R175): the frame is gone from the inbound queue, the slot holds the
reply, the handler is REPLY_PENDING; all else of the link is as it was. -/
def Link.answered (l : Link) (rest : List Frame) (kind tag status : Byte) (data : List Byte) : Link :=
  { l with
    inbound := rest
    slot := some { kind := 0x40, tag := tag, payload := kind :: status :: data }
    handler := .replyPending }

/-! ## Words for reports -/

/-- A time on the link: 4 bytes, most significant first (R167, R184). -/
def timeBytes (t : Tick) : List Byte :=
  [BitVec.ofNat 8 (t.toNat / 16777216), BitVec.ofNat 8 (t.toNat / 65536), BitVec.ofNat 8 (t.toNat / 256),
    BitVec.ofNat 8 t.toNat]

/-- The KIND of a report's frame and the fields behind its time, as R184 lays them out with the codes of R181. -/
def Report.laidOut : Report → Byte × List Byte
  | .noteOn n pitch level cause =>
    (0x80,
      [BitVec.ofNat 8 n.val, BitVec.ofNat 8 pitch, BitVec.ofNat 8 level,
        match cause with | .press => 0 | .reversal => 1 | .revoice => 2 | .retrigger => 3])
  | .noteOff n pitch reason =>
    (0x81,
      [BitVec.ofNat 8 n.val, BitVec.ofNat 8 pitch,
        match reason with
        | .release => 0 | .reversal => 1 | .revoice => 2 | .stolen => 3 | .sectionOff => 4 | .limit => 5])
  | .dynamic n level => (0x82, [BitVec.ofNat 8 n.val, BitVec.ofNat 8 level])
  | .allOff cause => (0x83, [match cause with | .line => 1 | .request => 2 | .reset => 3])
  | .reversal side => (0x84, [match side with | .push => 1 | .pull => 2])
  | .registration preset origin condition =>
    (0x85,
      [BitVec.ofNat 8 preset.val, match origin with | .request => 0 | .switch => 1,
        match condition with | .immediate => 0 | .next .reversal => 1 | .next .beat => 2 | .next .bar => 3])
  | .clockState phase period =>
    (0x86,
      [match phase with | .stopped => 0 | .starting => 1 | .running => 2 | .coasting => 3,
        BitVec.ofNat 8 (period / 256), BitVec.ofNat 8 period])
  | .fault name =>
    (0x87,
      [match name with
        | .sticky .clip => 0 | .sticky .frame => 1 | .sticky .length => 2 | .sticky .gap => 3 | .sticky .check => 4
        | .sticky .overrun => 5 | .sticky .dropAttack => 6 | .sticky .keyFull => 7 | .sensor => 8])
  | .started cause => (0x88, [match cause with | .power => 0 | .line => 1 | .soft => 2])

/-! ## Words for events -/

/-- Whether a tick has come: now minus it, wrap-aware, is zero or positive (spec/00_scope.md, 2.1). -/
abbrev State.reached (s : State) (t : Tick) : Prop := 0 ≤ (s.tick - t).toInt

/-- The reading of key k in a scan: drive line k / 12, sense line k mod 12 (R1). -/
abbrev closedIn (r : Readings) (k : Fin 192) : Bool := (r.toList.getD (k.val / 12) 0).getLsbD (k.val % 12)

/-- A scan is in progress and its 2 ticks have passed (R1). -/
abbrev State.scanFinished (s : State) : Prop :=
  s.inReset = none ∧ s.ksc.scanning = true ∧ ∃ t, s.ksc.lastStart = some t ∧ 2 ≤ (s.tick - t).toInt

/-- The raw sample of a pressure difference (R17). -/
abbrev rawOf (p : Int) : Int := max (-2048) (min 2047 p)

/-- The centred sample (R19). -/
abbrev centredOf (raw offset : Int) : Int := max (-2048) (min 2047 (raw - offset))

/-- A sample arrives now (R17). -/
abbrev State.samples (s : State) : Prop := s.inReset = none ∧ s.reached s.blu.nextSample

/-- A sample that finds SENSOR_OK and does not enter a fault (R25). -/
abbrev State.samplesOrdinary (s : State) (p : Int) : Prop :=
  s.samples ∧ s.blu.sensor = .ok ∧ (rawOf p = -2048 ∨ rawOf p = 2047 → s.blu.rail + 1 < 32)

/-- The state that the six parts of a cut leave (R91, R143, R156). -/
def State.afterCut (cause : CutCause) (report : AllOffCause) (s : State) : State :=
  { s with
    scn :=
      { s.scn with
        cut := true
        cutCause := some cause
        cutVoices := s.val.voices.toList.countP fun x => x.state != .free }
    val := { s.val with voices := s.val.voices.map fun x => { x with state := .free, holders := 0 }, held := [] }
    evq :=
      { entries :=
          { report := .allOff report, due := s.tick, order := s.evq.made } ::
            (let kept := s.evq.entries.filter fun e => e.report.section? == none && !e.isAllOff
             if 128 ≤ kept.length then kept.dropLast else kept)
        lastDue := Vector.replicate 8 s.tick
        ahead := Vector.replicate 8 false
        made := s.evq.made + 1 }
    reg := { s.reg with slot := none }
    exu := { s.exu with accentCount := 0 } }

/-- Every held key re-attacked in direction d, in the order of the held-key table (R138, R140). -/
def State.reattacked (reason : NoteOffReason) (cause : NoteOnCause) (d : Side) (s : State) : State :=
  s.val.held.foldl (fun x h => reattack reason cause d h.key x) s

/-- Steps 1 to 3 of a commit (R105): the layers, the active preset, the empty slot, and the Registration report handed on. -/
def State.registered (p : Fin 16) (c : Condition) (o : Origin) (s : State) : State :=
  offerGeneral (.registration p o c)
    { s with reg := { s.reg with active := s.reg.store[p].layers, activePreset := some p, slot := none } }

/-- The state that a commit outside a reversal leaves (R105, R140): with REVOICE set every held key is re-attacked in the committed
direction, NONE counting as PUSH. -/
def State.afterCommit (p : Fin 16) (c : Condition) (o : Origin) (s : State) : State :=
  if s.reg.store[p].revoice = true then
    (s.registered p c o).reattacked .revoice .revoice (s.blu.direction.getD .push)
  else s.registered p c o

/-- What closes an event that has just happened is due: the full collection of the Calibrate in flight (R31, R32), a window that has
covered its scans (R13), and a scan boundary with settings to put in force (R11). -/
def State.closes (s : State) : Instr → Prop
  | .calibrationEnd => (∃ tag, s.lnk.handler = .inFlight tag) ∧ ∃ c, s.blu.collection = some c ∧ 64 ≤ c.count
  | .reinitialisationWindowEnd => s.ksc.window = some 0
  | .scanBoundary =>
    s.ksc.scanning = false ∧ (s.ksc.recPeriod ≠ s.ksc.period ∨ s.ksc.recAgreement ≠ s.ksc.agreement)
  | .hardReset _ | .resetRelease _ _ _ | .scanStart | .scanCompletion _ | .sample _ | .beatEdge | .barEdge
  | .lastRealBeatAbsent | .deadline | .cutEdge | .settleExpiry _ | .releaseExpiry _ | .byteArrival _ _ | .gap
  | .frameComplete | .unknownRequest | .setScan | .setBellows | .calibrate | .setExpression | .setClock | .writeKeys
  | .readKeys | .writeSection | .readSection | .sectionReady | .cutRequest | .resume | .selectPreset | .cancelPending
  | .writeLayer | .readLayer | .setPresetFlags | .status | .clearFlags | .reset | .transmit | .frameSent
  | .cutLineSample _ | .clickLineSample _ _ => False

/-- The handler is IDLE and the KIND of the oldest frame that waits, as a number, passes (R173). -/
abbrev State.waitsFor (s : State) (kind : Nat → Prop) : Prop :=
  s.lnk.handler = .idle ∧ ∃ f rest, s.lnk.inbound = f :: rest ∧ kind f.kind.toNat

/-- A frame's held bytes are 5 + LEN (R170). -/
abbrev completeBytes (held : List Byte) : Prop := 3 ≤ held.length ∧ held.length = 5 + (held.getD 2 0).toNat

/-- Any other event of the part is due: a scan start (R2), an accepted edge (R56, R90), the deadline (R61), a last real beat of 20001
ticks ago (R57), a settle expiry (R88), a release expiry (R134), a gap and a complete frame (R170, R171), the request of the oldest
frame (R173, R182), and something for an IDLE transmitter to take (R155, R177). -/
def State.comesDue (s : State) : Instr → Prop
  | .scanStart =>
    s.ksc.scanning = false ∧ ∀ t, s.ksc.lastStart = some t → s.reached (t + BitVec.ofNat 32 s.ksc.period)
  | .beatEdge => s.tck.beatLine.accepted = true
  | .barEdge => s.tck.barLine.accepted = true
  | .cutEdge => s.scn.cutLine.accepted = true
  | .deadline => ∃ d, s.tck.deadline = some d ∧ s.reached d
  | .lastRealBeatAbsent => ∃ t, s.tck.lastReal = some t ∧ 20001 ≤ (s.tick - t).toInt
  | .settleExpiry m => ∃ (n : Fin 8) (t : Tick), n.val = m ∧ s.scn.readiness[n] = .settling t ∧ s.reached t
  | .releaseExpiry m => ∃ (v : Fin 48) (t : Tick), v.val = m ∧ s.val.voices[v].state = .releasing t ∧ s.reached t
  | .gap =>
    ∃ held gapTime, s.lnk.receiver = .assembling held gapTime ∧ ¬ completeBytes held ∧ 21 ≤ (s.tick - gapTime).toInt
  | .frameComplete => ∃ held gapTime, s.lnk.receiver = .assembling held gapTime ∧ completeBytes held
  | .transmit =>
    s.lnk.transmitter = .idle ∧
      ((∃ f, s.lnk.slot = some f) ∨
        ∃ e es, s.evq.entries = e :: es ∧ ((∃ c, e.report = .allOff c) ∨ s.reached e.due))
  | .setScan => s.waitsFor (· = 0x01)
  | .setBellows => s.waitsFor (· = 0x02)
  | .calibrate => s.waitsFor (· = 0x03)
  | .setExpression => s.waitsFor (· = 0x04)
  | .setClock => s.waitsFor (· = 0x05)
  | .writeKeys => s.waitsFor (· = 0x06)
  | .readKeys => s.waitsFor (· = 0x07)
  | .writeSection => s.waitsFor (· = 0x08)
  | .readSection => s.waitsFor (· = 0x09)
  | .sectionReady => s.waitsFor (· = 0x0A)
  | .cutRequest => s.waitsFor (· = 0x0B)
  | .resume => s.waitsFor (· = 0x0C)
  | .selectPreset => s.waitsFor (· = 0x0D)
  | .cancelPending => s.waitsFor (· = 0x0E)
  | .writeLayer => s.waitsFor (· = 0x0F)
  | .readLayer => s.waitsFor (· = 0x10)
  | .setPresetFlags => s.waitsFor (· = 0x11)
  | .status => s.waitsFor (· = 0x12)
  | .clearFlags => s.waitsFor (· = 0x13)
  | .reset => s.waitsFor (· = 0x14)
  | .unknownRequest => s.waitsFor fun k => k = 0 ∨ 0x14 < k
  | .hardReset _ | .resetRelease _ _ _ | .scanCompletion _ | .scanBoundary | .reinitialisationWindowEnd | .sample _
  | .calibrationEnd | .byteArrival _ _ | .frameSent | .cutLineSample _ | .clickLineSample _ _ => False

/-- The state after bytes that arrive now one by one without a framing fault, a frame among them being disposed of as soon as it is
complete (R170 to R172). -/
def State.arrivals (bs : List Byte) (s : State) : State :=
  bs.foldl (fun x b => completeFrame (takeByte b false x)) s

/-- The state a frame abandoned with these held bytes leaves (R171): the flag is raised, and the held bytes are taken anew from
HUNTING, as though each arrived now. -/
def State.rescanned (f : StickyFlag) (held : List Byte) (s : State) : State :=
  State.arrivals held
    { raiseFlag f s with lnk := { s.lnk with receiver := .hunting } }

/-- A key entry the map can hold (R69, R73): sets of at most four pitches, each at most 127, and register fields only in a REGISTER
entry. -/
abbrev KeyEntryLegal (e : KeyEntry) : Prop :=
  e.push.length ≤ 4 ∧ e.pull.length ≤ 4 ∧ (∀ p ∈ e.push, p ≤ 127) ∧ (∀ p ∈ e.pull, p ≤ 127) ∧
    (e.cls ≠ .register → e.preset = 0 ∧ e.condition = .immediate)

/-- A layer record the store can hold (R97). -/
abbrev LayerLegal (l : Layer) : Prop := l.lo ≤ l.hi ∧ l.hi ≤ 127 ∧ -48 ≤ l.transpose ∧ l.transpose ≤ 48

/-- A key entry record of 11 bytes that WriteKeys takes (R74): a class code that names a class, set lengths of at most 4, pitches of at
most 127 within them, and in a REGISTER record a condition and a preset that exist. -/
abbrev RecordLegal (r : List Byte) : Prop :=
  (r.getD 0 0).toNat % 16 ≤ 4 ∧ (r.getD 1 0).toNat / 16 ≤ 4 ∧ (r.getD 1 0).toNat % 16 ≤ 4 ∧
    (∀ p ∈ ((r.drop 2).take 4).take ((r.getD 1 0).toNat / 16), p.toNat ≤ 127) ∧
    (∀ p ∈ ((r.drop 6).take 4).take ((r.getD 1 0).toNat % 16), p.toNat ≤ 127) ∧
    ((r.getD 0 0).toNat % 16 = 4 → (r.getD 0 0).toNat / 16 ≤ 3 ∧ (r.getD 10 0).toNat ≤ 15)

/-- The entry that a legal record stands for (R73, R181): the register fields count in a REGISTER record alone. -/
abbrev EntryReads (r : List Byte) (e : KeyEntry) : Prop :=
  (match e.cls with
    | .unused => 0
    | .treble => 1
    | .bassSingle => 2
    | .bassChord => 3
    | .register => 4) = (r.getD 0 0).toNat % 16 ∧
    e.push = (((r.drop 2).take 4).take ((r.getD 1 0).toNat / 16)).map BitVec.toNat ∧
    e.pull = (((r.drop 6).take 4).take ((r.getD 1 0).toNat % 16)).map BitVec.toNat ∧
    (e.cls = .register →
      (match e.condition with
        | .immediate => 0
        | .next .reversal => 1
        | .next .beat => 2
        | .next .bar => 3) = (r.getD 0 0).toNat / 16 ∧ e.preset.val = (r.getD 10 0).toNat) ∧
    (e.cls ≠ .register → e.condition = .immediate ∧ e.preset = 0)

/-- A layer record of 9 bytes that WriteLayer takes (R100). -/
abbrev LayerRecordLegal (r : List Byte) : Prop :=
  (r.getD 0 0).toNat ≤ 1 ∧ (r.getD 1 0).toNat ≤ 7 ∧ (r.getD 2 0).toNat ≤ (r.getD 3 0).toNat ∧ (r.getD 3 0).toNat ≤ 127 ∧
    (r.getD 5 0).toNat ≤ 7 ∧ (r.getD 6 0).toNat ≤ 1 ∧ (r.getD 7 0).toNat ≤ 1 ∧ (r.getD 8 0).toNat ≤ 1

/-- A layer that the fields of a request can carry (R100): as LayerLegal, with any transpose of one signed byte. -/
abbrev LayerCarried (l : Layer) : Prop := l.lo ≤ l.hi ∧ l.hi ≤ 127 ∧ -128 ≤ l.transpose ∧ l.transpose ≤ 127

/-- A section record that the fields of a request can carry (R82). -/
abbrev RecordCarried (r : SectionRecord) : Prop :=
  r.polyphony ≤ 255 ∧ r.lo ≤ 255 ∧ r.hi ≤ 255 ∧ r.releaseHold ≤ 65535 ∧ r.alignment ≤ 65535 ∧ r.boost ≤ 255 ∧
    CurveLegal r.curve

/-- What WriteSection makes of a carried record (R82). -/
def SectionRecord.taken (r : SectionRecord) : SectionRecord :=
  { r with
    polyphony := max 1 (min 16 r.polyphony)
    releaseHold := min 2000 r.releaseHold
    alignment := min 400 r.alignment
    boost := min 127 r.boost }

end Sys2Proof.Machine
end

