-- ==== Sys2Proof/Certificates/Slice0/Obligations.lean ====
section
/-! DEFINITION. The statements for the provers. Each docstring names the rules of spec/ the statement formalises. -/

open Sys2Proof Sys2Proof.Machine

/-! ## The step -/

/-- A command at the front of the queue is what the step carries out, on the state with the queue's rest. -/
def Obligations.StepTakesTheFrontCommand : Prop :=
  ∀ (c : Instr) (rest : List Instr) (s : State), step { s with pending := c :: rest } = exec c { s with pending := rest }

/-- The model's choice (log entries 5 and 22): on an empty queue the part takes one of its own events that are due; with none due one
tick passes, and a last-due that comes with it is no longer ahead, unless the part still waits for what the world brings at the present tick; then, and while
RESET is low, nothing happens. When each event is due is the rules' (State.closes: R11, R13, R32; State.comesDue: R2, R56, R57, R61, R88,
R90, R134, R155, R171 to R173, R177), and that the closing events come before the others is the model's choice (log entry 5). The world
is waited for while a line has not been sampled at this tick (R56, R90), a sample stands at it (R17), or a scan has lasted its 2 ticks (R1). -/
def Obligations.EmptyQueueTakesADueEventOrATick : Prop :=
  (∀ s : State, s.pending = [] →
    (s.dueEvents ≠ [] → ∃ i ∈ s.dueEvents, step s = exec i { s with picks := s.picks + 1 }) ∧
      (s.dueEvents = [] → s.inReset = none →
        (s.awaitsWorld = false →
          step s =
            .next { s with
              tick := s.tick + 1
              evq :=
                { s.evq with
                  ahead :=
                    Vector.ofFn fun n : Fin 8 =>
                      s.evq.ahead[n] && !decide (0 ≤ ((s.tick + 1) - s.evq.lastDue[n]).toInt) } }) ∧
          (s.awaitsWorld = true → step s = .next s)) ∧
      (∀ c, s.inReset = some c → step s = .next s)) ∧
  ∀ s : State,
    (∀ c, s.inReset = some c → s.dueEvents = []) ∧
      (s.inReset = none →
        ∀ i : Instr, i ∈ s.dueEvents ↔ s.closes i ∨ ((∀ j, ¬ s.closes j) ∧ s.comesDue i)) ∧
      (s.awaitsWorld = true ↔
        s.tck.beatLine.sampledAt ≠ some s.tick ∨ s.tck.barLine.sampledAt ≠ some s.tick ∨
          s.scn.cutLine.sampledAt ≠ some s.tick ∨ s.reached s.blu.nextSample ∨
          (s.ksc.scanning = true ∧ ∃ t, s.ksc.lastStart = some t ∧ 2 ≤ (s.tick - t).toInt))

/-! ## Reset -/

/-- The hard reset column of every block, as State.reset holds it: R15, R35, R54, R67, R79, R80, R95, R96, R116, R144, R158, R166, R180, R189.
The model's choices: the pin levels sampled at release (LSEL1, LSEL0 and CUT low, so 500 kbit/s, NORMAL, and the CUT filter armed by that low sample) and the
power-on cause (log entry 1), section, pitch and serial of a voice that never sounded (log entry 2), and the model's own fields: the accepted
flags and sample ticks of the filters (log entry 3), the ahead marks (log entry 22), the counter of picks and the queue of commands (log entries 5 and 20). -/
def Obligations.ResetHoldsTheHardResetValues : Prop :=
  (State.reset.tick = 0 ∧ State.reset.inReset = none ∧ State.reset.picks = 0 ∧ State.reset.pending = []) ∧
    ((∀ k : Fin 192, State.reset.ksc.filters[k] = { down := false, count := 0 }) ∧
      State.reset.ksc.period = 10 ∧ State.reset.ksc.agreement = 3 ∧ State.reset.ksc.recPeriod = 10 ∧
      State.reset.ksc.recAgreement = 3 ∧ State.reset.ksc.window = none ∧ State.reset.ksc.scanning = false ∧
      State.reset.ksc.lastStart = none) ∧
    (∀ k : Fin 192, State.reset.imap[k] =
      { cls := .unused, push := [], pull := [], preset := 0, condition := .immediate }) ∧
    State.reset.blu =
      { offset := 0, hysteresis := 24, deadTime := 4, direction := none, pushRun := 0, pullRun := 0, sensor := .ok
        rail := 0, recovery := 0, collection := none, nextSample := 5 } ∧
    (State.reset.exu.deadZone = 16 ∧ State.reset.exu.gain = 256 ∧ State.reset.exu.smoothing = 3 ∧
      State.reset.exu.accentThreshold = 0 ∧ State.reset.exu.accentWindow = 40 ∧ State.reset.exu.reportStep = 4 ∧
      State.reset.exu.force = 0 ∧ State.reset.exu.smoothed = 0 ∧ State.reset.exu.history = List.replicate 8 0 ∧
      State.reset.exu.accentCount = 0 ∧
      ∀ n : Fin 8, State.reset.exu.sections[n] =
        { curve := #v[0, 32, 64, 96, 128, 160, 192, 224, 255], boost := 0, level := 0, last := 0 }) ∧
    State.reset.tck =
      { beatLine := { armed := false, high := 0, accepted := false, sampledAt := none }
        barLine := { armed := false, high := 0, accepted := false, sampledAt := none }
        phase := .stopped, lastReal := none, period := 0, reference := 0, deadline := none, synthetic := 0
        barMark := false, beatInBar := 0, beatsPerBar := 4, coast := 4 } ∧
    ((∀ n : Fin 8, State.reset.scn.records[n] =
        { polyphony := 8, lo := 0, hi := 127, releaseHold := 0, alignment := 0, boost := 0
          curve := #v[0, 32, 64, 96, 128, 160, 192, 224, 255] } ∧
        State.reset.scn.readiness[n] = .off) ∧
      State.reset.scn.cut = false ∧ State.reset.scn.lastCut = false ∧ State.reset.scn.cutCause = none ∧
      State.reset.scn.cutVoices = 0 ∧
      State.reset.scn.cutLine = { armed := true, high := 0, accepted := false, sampledAt := some 0 }) ∧
    (let layer : Layer :=
       { enabled := false, mask := 0, lo := 0, hi := 0, transpose := 0, sect := 0, mode := .fold, reattack := false
         accent := false }
     (∀ (p : Fin 16) (l : Fin 8), State.reset.reg.store[p].layers[l] = layer ∧ State.reset.reg.store[p].revoice = false) ∧
       (∀ l : Fin 8, State.reset.reg.active[l] = layer) ∧ State.reset.reg.activePreset = none ∧
       State.reset.reg.slot = none) ∧
    ((∀ v : Fin 48, State.reset.val.voices[v] = { state := .free, sect := 0, pitch := 0, holders := 0, serial := 0 }) ∧
      State.reset.val.held = [] ∧ State.reset.val.serial = 0) ∧
    (State.reset.evq.entries = [{ report := .started .power, due := 0, order := 0 }] ∧
      (∀ n : Fin 8, State.reset.evq.lastDue[n] = 0 ∧ State.reset.evq.ahead[n] = false) ∧ State.reset.evq.made = 1) ∧
    State.reset.lnk =
      { rate := .k500, receiver := .hunting, inbound := [], handler := .idle, slot := none, transmitter := .idle
        sequence := 0 } ∧
    State.reset.stu =
      { sticky := 0, frameCount := 0, lengthCount := 0, gapCount := 0, checkCount := 0, overrunCount := 0
        dropAttackCount := 0 }

/-- The laws whose keeping is stated below hold at reset. -/
def Obligations.LawsHoldAtReset : Prop :=
  SilentInCut State.reset ∧ TablesLawful State.reset ∧ VoicesLawful State.reset ∧ LevelsInRange State.reset ∧
    BellowsLegal State.reset ∧ ClockLegal State.reset ∧ HandlerLegal State.reset ∧ DynamicsSingle State.reset ∧
    QueueOrdered State.reset ∧ DuesLawful State.reset

/-- R180, R2: a hard reset stops the frame being sent and the scan in progress at once. That all other state stands until release is the
model's reading (log entry 14), and so is the cause kept when one hard reset comes within another: a power-on stays a power-on
(log entry 9). -/
def Obligations.HardResetStopsFrameAndScan : Prop :=
  ∀ (c : ResetCause) (s : State),
    let stopped := fun cause : ResetCause =>
      { s with
        inReset := some cause
        lnk := { s.lnk with transmitter := .idle }
        ksc := { s.ksc with scanning := false } }
    (s.inReset = none → exec (.hardReset c) s = .next (stopped c)) ∧
      (s.inReset = some .power → exec (.hardReset c) s = .next (stopped .power)) ∧
      (s.inReset = some .line → exec (.hardReset c) s = .next (stopped c))

/-- R2, R17, R56, R180: while RESET is low no command but a hard reset or its release does anything. That the blocks' other state stands
until release is the model's reading (log entry 14). -/
def Obligations.NothingHappensWhileResetIsLow : Prop :=
  ∀ (i : Instr) (s : State) (c : ResetCause), s.inReset = some c →
    (∀ d, i ≠ .hardReset d) → (∀ a b d, i ≠ .resetRelease a b d) → exec i s = .next s

/-- R95, R158, R166, R180: at release every block stands at its hard reset value, with the line rate from LSEL1 and LSEL0, the cut state
from the CUT line, Started with the reset's cause alone in the queue, and the tick count 0. The model's own counter of picks and
its queue of commands stand (log entries 1 and 5). -/
def Obligations.ReleaseTakesTheHardResetValues : Prop :=
  ∀ (s : State) (cause : ResetCause) (lsel1 lsel0 cut : Bool), s.inReset = some cause →
    exec (.resetRelease lsel1 lsel0 cut) s =
      .next { State.reset with
        scn :=
          { State.reset.scn with
            cut := cut
            lastCut := cut
            cutCause := if cut then some .line else none
            cutLine := { armed := !cut, high := 0, accepted := false, sampledAt := some 0 } }
        evq :=
          { State.reset.evq with
            entries :=
              [{ report := .started (if cause = .power then .power else .line), due := 0, order := 0 }] }
        lnk :=
          { State.reset.lnk with
            rate :=
              if lsel1 then (if lsel0 then .m3 else .m2) else (if lsel0 then .m1 else .k500) }
        picks := s.picks
        pending := s.pending }

/-- R179, R157 and the soft reset columns of R35, R54, R67, R95, R116, R144, R180, R189: the reply Done with no data, each block's soft-reset
values, and AllOff(RESET) with Started(SOFT) behind it alone in the queue. -/
def Obligations.ResetRequestSoftResetsThePart : Prop :=
  ∀ (s : State) (tag : Byte) (rest : List Frame), s.offers 0x14 tag [] rest →
    exec .reset s =
      .next { s with
        blu := { s.blu with direction := none, pushRun := 0, pullRun := 0, collection := none }
        exu :=
          { s.exu with
            force := 0, smoothed := 0, history := List.replicate 8 0, accentCount := 0
            sections := s.exu.sections.map fun d => { d with level := d.curve.get 0, last := 0 } }
        tck :=
          { s.tck with
            phase := .stopped, period := 0, reference := 0, deadline := none, synthetic := 0, barMark := false
            beatInBar := 0 }
        scn :=
          { s.scn with
            cut := s.scn.lastCut, cutCause := if s.scn.lastCut then some .line else none, cutVoices := 0 }
        reg := { s.reg with slot := none }
        val :=
          { voices := s.val.voices.map fun x => { x with state := .free, holders := 0 }, held := [], serial := 0 }
        evq :=
          { entries :=
              [{ report := .allOff .reset, due := s.tick, order := 0 },
               { report := .started .soft, due := s.tick, order := 1 }]
            lastDue := Vector.replicate 8 s.tick
            ahead := Vector.replicate 8 false
            made := 2 }
        stu :=
          { sticky := 0, frameCount := 0, lengthCount := 0, gapCount := 0, checkCount := 0, overrunCount := 0
            dropAttackCount := 0 }
        lnk := s.lnk.answered rest 0x14 tag 0x00 [] }

/-! ## Key Scanner -/

/-- R2, R11: a scan starts when the last start plus the period in force has come, or at once when none has started. That an earlier
command starts nothing is the model's choice (log entry 4). -/
def Obligations.ScanStartsOnePeriodAfterTheLast : Prop :=
  ∀ s : State, s.inReset = none → s.ksc.scanning = false → s.ksc.recPeriod = s.ksc.period →
    s.ksc.recAgreement = s.ksc.agreement →
    (s.ksc.lastStart = none →
      exec .scanStart s = .next { s with ksc := { s.ksc with scanning := true, lastStart := some s.tick } }) ∧
      ∀ t, s.ksc.lastStart = some t →
        (s.reached (t + BitVec.ofNat 32 s.ksc.period) →
          exec .scanStart s = .next { s with ksc := { s.ksc with scanning := true, lastStart := some s.tick } }) ∧
          (¬ s.reached (t + BitVec.ofNat 32 s.ksc.period) → exec .scanStart s = .next s)

/-- R11, R12, R13: at a boundary, recorded settings that differ come into force, every agreement count becomes 0, the debounced states
stay, and a window of N scans opens; settings that do not differ change nothing; a window that has covered its scans ends. The model's choices: the
end of a window that is not over, and a boundary command while a scan is in progress, do nothing (log entry 4), and a boundary
that has come is met before a SetScan is carried out (log entry 5). -/
def Obligations.BoundaryOpensAWindowAndTheWindowEnds : Prop :=
  ∀ s : State, s.inReset = none →
    (s.ksc.scanning = false → (s.ksc.recPeriod ≠ s.ksc.period ∨ s.ksc.recAgreement ≠ s.ksc.agreement) →
      ∃ t, exec .scanBoundary s = .next t ∧ t = { s with ksc := t.ksc } ∧ t.ksc.period = s.ksc.recPeriod ∧
        t.ksc.agreement = s.ksc.recAgreement ∧ t.ksc.recPeriod = s.ksc.recPeriod ∧
        t.ksc.recAgreement = s.ksc.recAgreement ∧ t.ksc.window = some s.ksc.recAgreement ∧
        t.ksc.scanning = false ∧ t.ksc.lastStart = s.ksc.lastStart ∧
        (∀ k : Fin 192, t.ksc.filters[k] = { down := s.ksc.filters[k].down, count := 0 }) ∧
        ∀ (tag p a : Byte) (rest : List Frame), s.offers 0x01 tag [p, a] rest → p.toNat ∈ [0, 5, 10, 20] →
          exec .setScan s = exec .setScan t) ∧
      (s.ksc.scanning = true → exec .scanBoundary s = .next s) ∧
      (s.ksc.recPeriod = s.ksc.period → s.ksc.recAgreement = s.ksc.agreement → exec .scanBoundary s = .next s) ∧
      (s.ksc.window = some 0 →
        exec .reinitialisationWindowEnd s = .next { s with ksc := { s.ksc with window := none } }) ∧
      (s.ksc.window ≠ some 0 → exec .reinitialisationWindowEnd s = .next s)

/-- R13: a scan that a window covers leaves every agreement count at 0 and every debounced state as it was, and makes no key event. -/
def Obligations.ScanInAWindowMakesNoEvent : Prop :=
  ∀ (s : State) (r : Readings) (w : Option Nat) (left : Nat), s.scanFinished → s.ksc.window = some (left + 1) →
    ∃ t, exec (.scanCompletion ⟨r, w⟩) s = .next t ∧ t = { s with ksc := t.ksc } ∧ t.ksc.window = some left ∧
      t.ksc.scanning = false ∧ ∀ k : Fin 192, t.ksc.filters[k] = { down := s.ksc.filters[k].down, count := 0 }

/-- R3, R5, R75: outside a window every filter takes its reading by the table of R3, and the keys that change state make the scan's events,
routed in ascending key id; when no filter changes state nothing else of the part changes. Where the sender lets a waiting WriteKeys be taken after
n of the events (log entry 21), the events before it are routed by the old map and those behind it by the new. What no key event can
change is as it was. -/
def Obligations.ScanUpdatesEveryFilter : Prop :=
  ∀ (s : State) (r : Readings), s.scanFinished → s.ksc.window = none →
    let turned := (List.finRange 192).filter fun k =>
      decide (closedIn r k ≠ s.ksc.filters[k].down ∧ s.ksc.agreement ≤ s.ksc.filters[k].count + 1)
    let route := fun (x : State) (k : Fin 192) => routeEvent x { key := k, press := closedIn r k }
    ∃ u, u = { s with ksc := { s.ksc with scanning := false, filters := u.ksc.filters } } ∧
      (∀ k : Fin 192, u.ksc.filters[k] =
        if closedIn r k = s.ksc.filters[k].down then { down := s.ksc.filters[k].down, count := 0 }
        else if s.ksc.filters[k].count + 1 < s.ksc.agreement then
          { down := s.ksc.filters[k].down, count := s.ksc.filters[k].count + 1 }
        else { down := closedIn r k, count := 0 }) ∧
      exec (.scanCompletion ⟨r, none⟩) s = .next (turned.foldl route u) ∧
      (turned.foldl route u).ksc = u.ksc ∧
      turned.foldl route u =
        { u with
          reg := (turned.foldl route u).reg, val := (turned.foldl route u).val, evq := (turned.foldl route u).evq
          stu := (turned.foldl route u).stu } ∧
      ((∀ k : Fin 192, closedIn r k = s.ksc.filters[k].down ∨ s.ksc.filters[k].count + 1 < s.ksc.agreement) →
        exec (.scanCompletion ⟨r, none⟩) s = .next u) ∧
      ∀ n : Nat, ∃ x, exec .writeKeys ((turned.take n).foldl route u) = .next x ∧
        exec (.scanCompletion ⟨r, some n⟩) s = .next ((turned.drop n).foldl route x)

/-- R5, R7, R8, R109, R122, R123, R132: when exactly one key changes state, its event goes where the key's class sends it. A press: UNUSED discards
it; a REGISTER key selects in NORMAL, an IMMEDIATE selection committing at once, and does nothing in CUT; a playing key is entered in the held-key table with the
attack direction and attacked with cause PRESS, is discarded in CUT, and sets KEYFULL when 24 keys are held. A release takes a listed
key's entry out and releases its voices in list order, and does nothing for an unlisted key. -/
def Obligations.OneKeyEventIsRoutedByClass : Prop :=
  ∀ (s : State) (r : Readings) (k : Fin 192), s.scanFinished → s.ksc.window = none →
    (∀ j : Fin 192, (closedIn r j ≠ s.ksc.filters[j].down ∧ s.ksc.agreement ≤ s.ksc.filters[j].count + 1) ↔ j = k) →
    ∃ t, exec (.scanCompletion ⟨r, none⟩) s = .next t ∧
      (closedIn r k = true →
        (s.imap[k].cls = .unused → t = { s with ksc := t.ksc }) ∧
        (s.imap[k].cls = .register →
          (s.scn.cut = true → t = { s with ksc := t.ksc }) ∧
          (s.scn.cut = false → ∀ w, s.imap[k].condition = .next w →
            t = { s with
              ksc := t.ksc
              reg := { s.reg with slot := some { preset := s.imap[k].preset, trigger := w, origin := .switch } } }) ∧
          (s.scn.cut = false → s.imap[k].condition = .immediate →
            t = State.afterCommit s.imap[k].preset .immediate .switch { s with ksc := t.ksc } ∧
            t.reg =
              { s.reg with
                active := s.reg.store[s.imap[k].preset].layers
                activePreset := some s.imap[k].preset
                slot := none })) ∧
        (s.imap[k].cls ≠ .unused → s.imap[k].cls ≠ .register →
          (s.scn.cut = true → t = { s with ksc := t.ksc }) ∧
          (s.scn.cut = false → 24 ≤ s.val.held.length →
            t = { s with ksc := t.ksc, evq := t.evq, stu := t.stu } ∧
              t.stu = { s.stu with sticky := s.stu.sticky ||| 0x80 }) ∧
          (s.scn.cut = false → s.val.held.length < 24 →
            let side := s.blu.direction.getD .push
            t = attack k side .press
                { s with
                  ksc := t.ksc
                  val :=
                    { s.val with
                      held :=
                        s.val.held.takeWhile (fun h => decide (h.key ≤ k)) ++
                          { key := k, side := side, pairs := [] } ::
                            s.val.held.dropWhile (fun h => decide (h.key ≤ k)) } } ∧
              ∃ h ∈ t.val.held, h.key = k ∧ h.side = side))) ∧
      (closedIn r k = false →
        ((∀ h ∈ s.val.held, h.key ≠ k) → t = { s with ksc := t.ksc }) ∧
        (∀ h, s.val.held.find? (fun h => h.key == k) = some h →
          t = h.pairs.foldl (fun x p => releaseVoice .release p.voice x)
              { s with ksc := t.ksc, val := { s.val with held := s.val.held.filter fun h => h.key != k } } ∧
            (∀ h ∈ t.val.held, h.key ≠ k) ∧ t.reg = s.reg))

/-- R10, R11: SetScan with period 0, 5, 10 or 20 records the resulting values, the agreement clamped to 2 to 4, and answers Done or
Clamped with them; any other period is refused with Refused-Value, the fields as given, and nothing is recorded. With a scan in progress no other state of the
scanner changes. With none the boundary is at once: values that differ from those in force come into force and open a window, equal
ones change nothing. -/
def Obligations.SetScanRecordsTheSettings : Prop :=
  ∀ (s : State) (tag p a : Byte) (rest : List Frame), s.offers 0x01 tag [p, a] rest →
    let period := if p.toNat = 0 then s.ksc.recPeriod else p.toNat
    let n := if a.toNat = 0 then s.ksc.recAgreement else max 2 (min 4 a.toNat)
    (p.toNat ∈ [0, 5, 10, 20] →
      ∃ t, exec .setScan s = .next t ∧
        t = { s with
          ksc := t.ksc
          lnk :=
            s.lnk.answered rest 0x01 tag (if a.toNat = 0 ∨ n = a.toNat then 0x00 else 0x01)
              [BitVec.ofNat 8 period, BitVec.ofNat 8 n] } ∧
        t.ksc.recPeriod = period ∧ t.ksc.recAgreement = n ∧ t.ksc.scanning = s.ksc.scanning ∧
        t.ksc.lastStart = s.ksc.lastStart ∧
        (s.ksc.scanning = true → t.ksc = { s.ksc with recPeriod := period, recAgreement := n }) ∧
        (s.ksc.scanning = false → s.ksc.recPeriod = s.ksc.period → s.ksc.recAgreement = s.ksc.agreement →
          (period = s.ksc.period ∧ n = s.ksc.agreement → t.ksc = s.ksc) ∧
          (¬ (period = s.ksc.period ∧ n = s.ksc.agreement) →
            t.ksc =
              { s.ksc with
                period := period, agreement := n, recPeriod := period, recAgreement := n, window := some n
                filters := s.ksc.filters.map fun f => { f with count := 0 } }))) ∧
      (p.toNat ∉ [0, 5, 10, 20] →
        exec .setScan s = .next { s with lnk := s.lnk.answered rest 0x01 tag 0x12 [p, a] })

/-! ## Bellows Unit -/

/-- R17, R19, R20, R21, R25: an ordinary sample is limited to the converter's span, counts toward the rail, is centred, moves the run counters,
and commits a direction when a counter reaches D; other settings of the unit stay. That a sample before its
tick does nothing is the model's choice (log entry 4). -/
def Obligations.OrdinarySampleMovesTheDirection : Prop :=
  ∀ (s : State) (p : Int),
    (s.inReset = none → ¬ s.reached s.blu.nextSample → exec (.sample p) s = .next s) ∧
    (s.samplesOrdinary p →
      let c := centredOf (rawOf p) s.blu.offset
      let push := if (s.blu.hysteresis : Int) < c then min (s.blu.pushRun + 1) s.blu.deadTime else 0
      let pull := if c < -(s.blu.hysteresis : Int) then min (s.blu.pullRun + 1) s.blu.deadTime else 0
      let toPush := push = s.blu.deadTime ∧ s.blu.direction ≠ some .push
      let toPull := ¬ toPush ∧ pull = s.blu.deadTime ∧ s.blu.direction ≠ some .pull
      ∃ t, exec (.sample p) s = .next t ∧
        (toPush → t.blu.direction = some .push ∧ t.blu.pushRun = 0 ∧ t.blu.pullRun = 0) ∧
        (toPull → t.blu.direction = some .pull ∧ t.blu.pushRun = 0 ∧ t.blu.pullRun = 0) ∧
        (¬ toPush → ¬ toPull → t.blu.direction = s.blu.direction ∧ t.blu.pushRun = push ∧ t.blu.pullRun = pull) ∧
        t.blu.rail = (if rawOf p = -2048 ∨ rawOf p = 2047 then s.blu.rail + 1 else 0) ∧
        t.blu.nextSample = s.blu.nextSample + 5 ∧ t.blu.sensor = .ok ∧ t.blu.offset = s.blu.offset ∧
        t.blu.hysteresis = s.blu.hysteresis ∧ t.blu.deadTime = s.blu.deadTime ∧ t.blu.recovery = s.blu.recovery ∧
        t = { s with blu := t.blu, exu := t.exu, reg := t.reg, val := t.val, evq := t.evq, stu := t.stu })

/-- R22, R23: a first commit of direction, and a sample that commits none, make no Reversal report and change neither registration nor
voices. A reversal makes its report, due now, when the queue has room for it beside one Fault and eight Dynamic reports, and is then
handed to the Voice Allocator (see ReversalKeepsKeysWithEqualSets), with the levels and the direction of this sample; with nothing
held and an empty slot it changes neither registration nor voices. -/
def Obligations.OnlyAReversalIsHandedOn : Prop :=
  ∀ (s : State) (p : Int), s.samplesOrdinary p →
    ∃ t, exec (.sample p) s = .next t ∧
      (s.blu.direction = none ∨ t.blu.direction = s.blu.direction → t.reg = s.reg ∧ t.val = s.val ∧
        ∀ d, ∀ e ∈ t.evq.entries, e.report = .reversal d → e ∈ s.evq.entries) ∧
      (∀ d, s.blu.direction ≠ none → t.blu.direction = some d → s.blu.direction ≠ some d →
        (∃ u, t = takeReversal d u ∧ u = { s with blu := t.blu, exu := t.exu, evq := u.evq, stu := u.stu } ∧
          (s.soundingTotal + 10 ≤ 128 - s.fill →
            ∃ e ∈ u.evq.entries, e.report = .reversal d ∧ e.due = s.tick)) ∧
        (s.soundingTotal + 10 ≤ 128 - s.fill →
          ∃ e ∈ t.evq.entries, e.report = .reversal d ∧ e.due = s.tick) ∧
        (s.val.held = [] → s.reg.slot = none → t.reg = s.reg ∧ t.val = s.val))

/-- R25, R26, R27, R31, R50, R51: the 32nd full-scale sample in a row enters SENSOR_FAULT and reports it if the queue has room; in SENSOR_FAULT the
direction, the run counters, the force, the smoothed force and the history stand. The 16th sample inside ends it: rail, recovery and run
counters become 0, and the sample is then worked as the same sample of a part in SENSOR_OK, which is an ordinary one. -/
def Obligations.SensorFaultIsEnteredHeldAndEnded : Prop :=
  ∀ (s : State) (p : Int), s.samples →
    let full := rawOf p = -2048 ∨ rawOf p = 2047
    ∃ t, exec (.sample p) s = .next t ∧
      (s.blu.sensor = .ok → full → s.blu.rail = 31 →
        t.blu.sensor = .fault ∧ t.blu.rail = 0 ∧ t.blu.recovery = 0 ∧
        (∀ c, t.blu.collection = some c → c.faultDuring = true) ∧
        (s.soundingTotal + 1 ≤ 128 - s.fill →
          { report := .fault .sensor, due := s.tick, order := s.evq.made } ∈ t.evq.entries)) ∧
      (s.blu.sensor = .fault → full → t.blu.sensor = .fault ∧ t.blu.recovery = 0 ∧ t.blu.rail = s.blu.rail) ∧
      (s.blu.sensor = .fault → ¬ full → s.blu.recovery < 15 →
        t.blu.sensor = .fault ∧ t.blu.recovery = s.blu.recovery + 1 ∧ t.blu.rail = s.blu.rail) ∧
      (s.blu.sensor = .fault → ¬ full → s.blu.recovery = 15 →
        let ended := { s with
          blu := { s.blu with sensor := .ok, rail := 0, recovery := 0, pushRun := 0, pullRun := 0 } }
        t.blu.sensor = .ok ∧ t.blu.recovery = 0 ∧ t.blu.rail = 0 ∧ ended.samplesOrdinary p ∧
          exec (.sample p) s = exec (.sample p) ended) ∧
      (t.blu.sensor = .fault →
        t.blu.direction = s.blu.direction ∧ t.blu.pushRun = s.blu.pushRun ∧ t.blu.pullRun = s.blu.pullRun ∧
        t.blu.offset = s.blu.offset ∧ t.exu.force = s.exu.force ∧ t.exu.smoothed = s.exu.smoothed ∧
        t.exu.history = s.exu.history ∧ t.exu.accentCount = s.exu.accentCount - 1 ∧
        t = { s with blu := t.blu, exu := t.exu, evq := t.evq })

/-- R29: SetBellows clamps H to 4 to 512 and D to 1 to 32, zeroes the run counters if either differs from the value in force, keeps the
direction, and answers Done or Clamped with the values in force. -/
def Obligations.SetBellowsPutsClampedValuesInForce : Prop :=
  ∀ (s : State) (tag h1 h0 d : Byte) (rest : List Frame), s.offers 0x02 tag [h1, h0, d] rest →
    let carried := h1.toNat * 256 + h0.toNat
    let h := max 4 (min 512 carried)
    let dt := max 1 (min 32 d.toNat)
    let same := h = s.blu.hysteresis ∧ dt = s.blu.deadTime
    exec .setBellows s =
      .next { s with
        blu :=
          { s.blu with
            hysteresis := h
            deadTime := dt
            pushRun := if same then s.blu.pushRun else 0
            pullRun := if same then s.blu.pullRun else 0 }
        lnk :=
          s.lnk.answered rest 0x02 tag (if h = carried ∧ dt = d.toNat then 0x00 else 0x01)
            [BitVec.ofNat 8 (h / 256), BitVec.ofNat 8 h, BitVec.ofNat 8 dt] }

/-- R30, R31, R176: Calibrate starts a collection, notes whether the sensor is in fault, makes the handler IN_FLIGHT and places no reply.
A sample that arrives while fewer than 64 are collected joins the collection as it was read. -/
def Obligations.CalibrateStartsACollection : Prop :=
  (∀ (s : State) (tag : Byte) (rest : List Frame), s.offers 0x03 tag [] rest →
    exec .calibrate s =
      .next { s with
        blu :=
          { s.blu with
            collection :=
              some
                { count := 0, sum := 0, minimum := none, maximum := none
                  faultAtStart := s.blu.sensor == .fault, faultDuring := false } }
        lnk := { s.lnk with inbound := rest, handler := .inFlight tag } }) ∧
  ∀ (s : State) (p : Int) (c : Collection), s.samples → s.blu.collection = some c → c.count < 64 →
    ∃ t d, exec (.sample p) s = .next t ∧ t.blu.collection = some d ∧ d.count = c.count + 1 ∧
      d.sum = c.sum + rawOf p ∧
      (∀ m, c.minimum = some m → d.minimum = some (min (rawOf p) m)) ∧
      (∀ m, c.maximum = some m → d.maximum = some (max (rawOf p) m)) ∧
      (c.minimum = none → d.minimum = some (rawOf p)) ∧ (c.maximum = none → d.maximum = some (rawOf p)) ∧
      d.faultAtStart = c.faultAtStart

/-- R32, R33: at the 64th sample the first outcome that applies decides status and offset, and the reply carries the offset in force, the
mean and the spread. -/
def Obligations.CalibrationEndsWithItsOutcome : Prop :=
  ∀ (s : State) (tag : Byte) (c : Collection) (lo hi : Int), s.inReset = none → s.lnk.handler = .inFlight tag →
    s.blu.collection = some c → c.count = 64 → c.minimum = some lo → c.maximum = some hi → lo ≤ hi →
    let mean := Int.fdiv c.sum 64
    let outcome : Byte × Int :=
      if c.faultAtStart = true ∨ c.faultDuring = true then (0x21, s.blu.offset)
      else if hi - lo > 2 * (s.blu.hysteresis : Int) then (0x20, s.blu.offset)
      else if mean > 255 then (0x01, 255)
      else if mean < -255 then (0x01, -255)
      else (0x00, mean)
    exec .calibrationEnd s =
      .next { s with
        blu := { s.blu with offset := outcome.2, collection := none }
        lnk :=
          { s.lnk with
            handler := .replyPending
            slot :=
              some
                { kind := 0x40, tag := tag
                  payload :=
                    0x03 :: outcome.1 :: (byte2s outcome.2 ++ byte2s mean ++ byte2 (hi - lo).toNat) } } }

/-! ## Expression Unit -/

/-- R38 to R42, R48, R19, R39: an ordinary sample's force, smoothed force, history and accent count; the settings stay. CLIP is set if it was, or if
centring saturated the difference, or if the force was limited to 4095; its first setting makes a Fault report if the queue admits it. -/
def Obligations.OrdinarySampleMovesTheForce : Prop :=
  ∀ (s : State) (p : Int), s.samplesOrdinary p →
    let c := centredOf (rawOf p) s.blu.offset
    let f := min 4095 ((c.natAbs - s.exu.deadZone) * s.exu.gain / 256)
    let clips := c ≠ rawOf p - s.blu.offset ∨ 4095 < (c.natAbs - s.exu.deadZone) * s.exu.gain / 256
    ∃ t, exec (.sample p) s = .next t ∧ t.exu.force = f ∧
      (t.exu.smoothed : Int) =
        s.exu.smoothed + Int.fdiv ((f : Int) - (s.exu.smoothed : Int)) ((2 ^ s.exu.smoothing : Nat) : Int) ∧
      t.exu.history = s.exu.history.tail ++ [f] ∧
      t.exu.accentCount =
        (if 0 < s.exu.accentThreshold ∧ (s.exu.accentThreshold : Int) ≤ (f : Int) - ((s.exu.history.headD 0 : Nat) : Int) ∧
            s.scn.cut = false
          then s.exu.accentWindow else s.exu.accentCount - 1) ∧
      t.exu.deadZone = s.exu.deadZone ∧ t.exu.gain = s.exu.gain ∧ t.exu.smoothing = s.exu.smoothing ∧
      t.exu.accentThreshold = s.exu.accentThreshold ∧ t.exu.accentWindow = s.exu.accentWindow ∧
      t.exu.reportStep = s.exu.reportStep ∧
      (t.stu.sticky.getLsbD 0 = true ↔ s.stu.sticky.getLsbD 0 = true ∨ clips) ∧
      (s.stu.sticky.getLsbD 0 = false → clips → s.soundingTotal + 1 ≤ 128 - s.fill →
        { report := .fault (.sticky .clip), due := s.tick, order := s.evq.made } ∈ t.evq.entries)

/-- R43, R44, R45, R46: at every sample, held or ordinary, each section takes its record's curve and boost, and its level is the straight
line between the two curve points about the smoothed force, rounded toward zero from the lower point. In CUT, and for a section
that is not READY, no level is reported and the last reported level stays. For a READY section in NORMAL a report is due when the
level differs from the last reported by S or more, or has come to 0 or 255: it is made if a Dynamic entry of the section waits or the
queue has room for it beside a Fault and seven other Dynamic reports, and then the last reported level is the level; with no room at
all, or with no report due, none is made and the last reported level stays. -/
def Obligations.EverySampleTakesTheLevels : Prop :=
  ∀ (s : State) (p : Int), s.samples →
    ∃ t, exec (.sample p) s = .next t ∧
      ∀ n : Fin 8, t.exu.sections[n].curve = s.scn.records[n].curve ∧ t.exu.sections[n].boost = s.scn.records[n].boost ∧
        ((t.exu.sections[n].level : Nat) : Int) =
          (let y := fun i : Nat => ((s.scn.records[n].curve.toList.getD i 0 : Nat) : Int)
           y (t.exu.smoothed / 512) +
            Int.tdiv ((y (t.exu.smoothed / 512 + 1) - y (t.exu.smoothed / 512)) * ((t.exu.smoothed % 512 : Nat) : Int)) 512) ∧
        (let level := t.exu.sections[n].level
         let last := s.exu.sections[n].last
         let unreported := t.exu.sections[n].last = last ∧
           ∀ e ∈ t.evq.entries, e.isDynamicOf n = true → e ∈ s.evq.entries
         let earned := last + s.exu.reportStep ≤ level ∨ level + s.exu.reportStep ≤ last ∨ (level = 0 ∧ last ≠ 0) ∨
           (level = 255 ∧ last ≠ 255)
         (s.scn.cut = true ∨ s.scn.readiness[n] ≠ .ready → unreported) ∧
           (s.scn.cut = false → s.scn.readiness[n] = .ready →
             (¬ earned → unreported) ∧
             (earned → s.holdsDynamic n = true ∨ s.soundingTotal + 9 ≤ 128 - s.fill →
               t.exu.sections[n].last = level ∧ ∃ e ∈ t.evq.entries, e.report = .dynamic n level) ∧
             (earned → s.holdsDynamic n = false → 128 - s.fill < s.soundingTotal + 1 → unreported))) ∧
        (t.exu.sections[n].last = s.exu.sections[n].last ∨ t.exu.sections[n].last = t.exu.sections[n].level)

/-- R52: SetExpression clamps its six fields, puts them in force, and answers Done or Clamped with them. -/
def Obligations.SetExpressionPutsClampedValuesInForce : Prop :=
  ∀ (s : State) (tag z1 z0 g1 g0 k a1 a0 t1 t0 r : Byte) (rest : List Frame),
    s.offers 0x04 tag [z1, z0, g1, g0, k, a1, a0, t1, t0, r] rest →
    let word := fun hi lo : Byte => hi.toNat * 256 + lo.toNat
    let z := min 255 (word z1 z0)
    let g := min 1023 (word g1 g0)
    let k' := min 6 k.toNat
    let a := min 4095 (word a1 a0)
    let w := max 1 (min 255 (word t1 t0))
    let r' := max 1 (min 32 r.toNat)
    exec .setExpression s =
      .next { s with
        exu :=
          { s.exu with
            deadZone := z, gain := g, smoothing := k', accentThreshold := a, accentWindow := w, reportStep := r' }
        lnk :=
          s.lnk.answered rest 0x04 tag
            (if z = word z1 z0 ∧ g = word g1 g0 ∧ k' = k.toNat ∧ a = word a1 a0 ∧ w = word t1 t0 ∧ r' = r.toNat
              then 0x00 else 0x01)
            [BitVec.ofNat 8 (z / 256), BitVec.ofNat 8 z, BitVec.ofNat 8 (g / 256), BitVec.ofNat 8 g, BitVec.ofNat 8 k',
              BitVec.ofNat 8 (a / 256), BitVec.ofNat 8 a, BitVec.ofNat 8 (w / 256), BitVec.ofNat 8 w,
              BitVec.ofNat 8 r'] }

/-! ## Tempo Clock -/

/-- R56, R90: the first sample of BEAT, BAR and CUT at a tick moves its filter by the tables of R56 and R90; an edge is accepted at the second high
sample in a row after a low one for BEAT and BAR, at the third for CUT, and the last CUT sample is the level. A line is sampled once per
tick, so a second sample at the same tick does nothing. The model's own are the flag that keeps an accepted edge until its command takes it, the tick of the
last sample, and that an edge command with no accepted edge either stands for the accepting sample of this tick or does nothing (log entries 3 and 4). -/
def Obligations.LineSamplesFilterEdges : Prop :=
  ∀ s : State, s.inReset = none →
    (∀ beat bar cut : Bool,
      let after := fun (need : Nat) (f : LineFilter) (high : Bool) =>
        if f.sampledAt = some s.tick then f
        else if high = false then { f with armed := true, high := 0, sampledAt := some s.tick }
        else if f.armed = false then { f with sampledAt := some s.tick }
        else if f.high < need then { f with high := f.high + 1, sampledAt := some s.tick }
        else { armed := false, high := 0, accepted := true, sampledAt := some s.tick }
      exec (.clickLineSample beat bar) s =
          .next { s with
            tck := { s.tck with beatLine := after 1 s.tck.beatLine beat, barLine := after 1 s.tck.barLine bar } } ∧
        (s.scn.cutLine.sampledAt ≠ some s.tick →
          exec (.cutLineSample cut) s =
            .next { s with scn := { s.scn with lastCut := cut, cutLine := after 2 s.scn.cutLine cut } }) ∧
        (s.scn.cutLine.sampledAt = some s.tick → exec (.cutLineSample cut) s = .next s)) ∧
    (let accepts := fun (need : Nat) (f : LineFilter) =>
        f.sampledAt ≠ some s.tick ∧ f.armed = true ∧ f.high = need
     let edge : LineFilter := { armed := false, high := 0, accepted := true, sampledAt := some s.tick }
     (s.tck.beatLine.accepted = false →
        (accepts 1 s.tck.beatLine → exec .beatEdge s = exec .beatEdge { s with tck := { s.tck with beatLine := edge } }) ∧
        (¬ accepts 1 s.tck.beatLine → exec .beatEdge s = .next s)) ∧
      (s.tck.barLine.accepted = false →
        (accepts 1 s.tck.barLine → exec .barEdge s = exec .barEdge { s with tck := { s.tck with barLine := edge } }) ∧
        (¬ accepts 1 s.tck.barLine → exec .barEdge s = .next s)) ∧
      (s.scn.cutLine.accepted = false →
        (accepts 2 s.scn.cutLine →
          exec .cutEdge s = exec .cutEdge { s with scn := { s.scn with lastCut := true, cutLine := edge } }) ∧
        (¬ accepts 2 s.scn.cutLine → exec .cutEdge s = .next s)))

/-- R57 to R60, R62, R63, R64, R105, R111: an accepted BEAT edge at least 2000 ticks after the last real beat, or with none present, is a real beat:
interval, state, P, reference, deadline and beat-in-bar as the rules give them. A change of clock state is reported, if the queue
admits it; then a waiting change of a matching condition is committed, and a change of another condition waits. An earlier edge changes
nothing of the grid. The premise that a line sample has accepted the edge is the model's own flag (log entry 3). -/
def Obligations.BeatEdgeIsARealBeat : Prop :=
  ∀ s : State, s.inReset = none → s.tck.beatLine.accepted = true →
    ((∃ l, s.tck.lastReal = some l ∧ (s.tick - l).toInt < 2000) →
      exec .beatEdge s =
        .next { s with tck := { s.tck with beatLine := { s.tck.beatLine with accepted := false } } }) ∧
    ((∀ l, s.tck.lastReal = some l → 2000 ≤ (s.tick - l).toInt) →
      let interval : Option Int :=
        match s.tck.phase, s.tck.lastReal with
        | .stopped, _ => none
        | _, none => none
        | _, some l => if (s.tick - l).toInt ≤ 20000 then some (s.tick - l).toInt else none
      let phase : ClockPhase :=
        match s.tck.phase, interval with
        | .stopped, _ => .starting
        | .starting, none => .starting
        | _, _ => .running
      let period := (interval.map Int.toNat).getD s.tck.period
      let beat := if s.tck.barMark = true ∨ s.tck.phase = .stopped ∨ s.tck.beatsPerBar ≤ s.tck.beatInBar then 1
        else s.tck.beatInBar + 1
      ∃ t u : State, exec .beatEdge s = .next t ∧
        u = { s with
          tck :=
            { s.tck with
              beatLine := { s.tck.beatLine with accepted := false }
              phase := phase
              lastReal := some s.tick
              period := period
              reference := s.tick
              deadline := if phase = .running then some (s.tick + BitVec.ofNat 32 (period + period / 4)) else none
              synthetic := 0
              barMark := false
              beatInBar := beat }
          evq := u.evq } ∧
        (phase = s.tck.phase ∨ 128 - s.fill < s.soundingTotal + 1 → u.evq = s.evq) ∧
        (phase ≠ s.tck.phase → s.soundingTotal + 1 ≤ 128 - s.fill →
          u.evq = (pushGeneral (.clockState phase period) s).evq ∧
          { report := .clockState phase period, due := s.tick, order := s.evq.made } ∈ u.evq.entries) ∧
        t.tck = u.tck ∧ t = { s with tck := t.tck, reg := t.reg, val := t.val, evq := t.evq, stu := t.stu } ∧
        (∀ c, s.reg.slot = some c → c.trigger = .beat ∨ (c.trigger = .bar ∧ beat = 1) →
          t = u.afterCommit c.preset (.next c.trigger) c.origin ∧
          t.reg =
            { s.reg with
              active := s.reg.store[c.preset].layers, activePreset := some c.preset, slot := none }) ∧
        ((∀ c, s.reg.slot = some c → c.trigger = .reversal ∨ (c.trigger = .bar ∧ beat ≠ 1)) → t = u))

/-- R57, R62: an accepted BAR edge sets the bar mark; 20001 ticks after the last real beat it becomes absent. The accepted flag is the
model's own (log entry 3), and that the command does nothing before then is the model's choice (log entry 4). -/
def Obligations.BarEdgeMarksAndOldBeatsLapse : Prop :=
  ∀ s : State, s.inReset = none →
    (s.tck.barLine.accepted = true →
      exec .barEdge s =
        .next { s with
          tck := { s.tck with barLine := { s.tck.barLine with accepted := false }, barMark := true } }) ∧
    ∀ l, s.tck.lastReal = some l →
      (20001 ≤ (s.tick - l).toInt →
        exec .lastRealBeatAbsent s = .next { s with tck := { s.tck with lastReal := none } }) ∧
      ((s.tick - l).toInt < 20001 → exec .lastRealBeatAbsent s = .next s)

/-- R60, R61, R62, R63, R64, R105, R111: the coming of the deadline is a synthetic beat while the synthetic count is below C, which is a beat event: the
change to COASTING is reported if the queue admits it, and then a waiting change of a matching condition is committed. Otherwise it stops the clock, with a ClockState report
if the queue admits it, and commits nothing. That the command does nothing before then is the model's choice (log entry 4). -/
def Obligations.DeadlineCoastsOrStops : Prop :=
  ∀ (s : State) (d : Tick), s.inReset = none → s.tck.deadline = some d →
    (¬ s.reached d → exec .deadline s = .next s) ∧
    (s.reached d → s.tck.synthetic < s.tck.coast →
      let reference := s.tck.reference + BitVec.ofNat 32 s.tck.period
      let beat := if s.tck.barMark = true ∨ s.tck.phase = .stopped ∨ s.tck.beatsPerBar ≤ s.tck.beatInBar then 1
        else s.tck.beatInBar + 1
      ∃ t u : State, exec .deadline s = .next t ∧
        u = { s with
          tck :=
            { s.tck with
              phase := .coasting
              synthetic := s.tck.synthetic + 1
              reference := reference
              deadline := some (reference + BitVec.ofNat 32 (s.tck.period + s.tck.period / 4))
              barMark := false
              beatInBar := beat }
          evq := u.evq } ∧
        (s.tck.phase = .coasting ∨ 128 - s.fill < s.soundingTotal + 1 → u.evq = s.evq) ∧
        (s.tck.phase ≠ .coasting → s.soundingTotal + 1 ≤ 128 - s.fill →
          u.evq = (pushGeneral (.clockState .coasting s.tck.period) s).evq ∧
          { report := .clockState .coasting s.tck.period, due := s.tick, order := s.evq.made } ∈ u.evq.entries) ∧
        t.tck = u.tck ∧ t = { s with tck := t.tck, reg := t.reg, val := t.val, evq := t.evq, stu := t.stu } ∧
        (∀ c, s.reg.slot = some c → c.trigger = .beat ∨ (c.trigger = .bar ∧ beat = 1) →
          t = u.afterCommit c.preset (.next c.trigger) c.origin ∧
          t.reg =
            { s.reg with
              active := s.reg.store[c.preset].layers, activePreset := some c.preset, slot := none }) ∧
        ((∀ c, s.reg.slot = some c → c.trigger = .reversal ∨ (c.trigger = .bar ∧ beat ≠ 1)) → t = u)) ∧
    (s.reached d → s.tck.coast ≤ s.tck.synthetic →
      ∃ t, exec .deadline s = .next t ∧ t = { s with tck := t.tck, evq := t.evq } ∧
        t.tck = { s.tck with phase := .stopped, deadline := none } ∧
        (s.tck.phase = .stopped ∨ 128 - s.fill < s.soundingTotal + 1 → t.evq = s.evq) ∧
        (s.tck.phase ≠ .stopped → s.soundingTotal + 1 ≤ 128 - s.fill →
          { report := .clockState .stopped s.tck.period, due := s.tick, order := s.evq.made } ∈ t.evq.entries))

/-- R65: SetClock clamps B to 1 to 16 and C to 0 to 8, puts them in force, and answers Done or Clamped with them; nothing else of the
clock changes. -/
def Obligations.SetClockPutsClampedValuesInForce : Prop :=
  ∀ (s : State) (tag b c : Byte) (rest : List Frame), s.offers 0x05 tag [b, c] rest →
    let b' := max 1 (min 16 b.toNat)
    let c' := min 8 c.toNat
    exec .setClock s =
      .next { s with
        tck := { s.tck with beatsPerBar := b', coast := c' }
        lnk :=
          s.lnk.answered rest 0x05 tag (if b' = b.toNat ∧ c' = c.toNat then 0x00 else 0x01)
            [BitVec.ofNat 8 b', BitVec.ofNat 8 c'] }

/-! ## Instrument Map -/

/-- R73, R74, R75: WriteKeys with 1 to 4 legal records that end by key 191 replaces those entries, and only those, together, and answers Done
with the first key id and the count; a span beyond key 191, or a record that is not legal, is refused with Refused-Value and writes
nothing. The register fields of a record that is not of class REGISTER are not checked, and are stored as preset 0 and IMMEDIATE. -/
def Obligations.WriteKeysReplacesTheEntries : Prop :=
  (∀ (s : State) (tag first : Byte) (es : List KeyEntry) (rest : List Frame),
    1 ≤ es.length → es.length ≤ 4 → (∀ e ∈ es, KeyEntryLegal e) →
    s.offers 0x06 tag (first :: BitVec.ofNat 8 es.length :: es.flatMap KeyEntry.bytes) rest →
    (first.toNat + es.length ≤ 192 →
      ∃ t, exec .writeKeys s = .next t ∧
        t = { s with
          imap := t.imap
          lnk := s.lnk.answered rest 0x06 tag 0x00 [first, BitVec.ofNat 8 es.length] } ∧
        ∀ k : Fin 192,
          (∀ e, first.toNat ≤ k.val → es[k.val - first.toNat]? = some e → t.imap[k] = e) ∧
          (k.val < first.toNat ∨ first.toNat + es.length ≤ k.val → t.imap[k] = s.imap[k])) ∧
    (192 < first.toNat + es.length →
      exec .writeKeys s =
        .next { s with lnk := s.lnk.answered rest 0x06 tag 0x12 [first, BitVec.ofNat 8 es.length] })) ∧
  ∀ (s : State) (tag first : Byte) (recs : List (List Byte)) (rest : List Frame),
    1 ≤ recs.length → recs.length ≤ 4 → (∀ r ∈ recs, r.length = 11) →
    s.offers 0x06 tag (first :: BitVec.ofNat 8 recs.length :: recs.flatten) rest →
    ((∃ r ∈ recs, ¬ RecordLegal r) ∨ 192 < first.toNat + recs.length →
      exec .writeKeys s =
        .next { s with lnk := s.lnk.answered rest 0x06 tag 0x12 [first, BitVec.ofNat 8 recs.length] }) ∧
    ((∀ r ∈ recs, RecordLegal r) → first.toNat + recs.length ≤ 192 →
      ∃ t, exec .writeKeys s = .next t ∧
        t = { s with
          imap := t.imap
          lnk := s.lnk.answered rest 0x06 tag 0x00 [first, BitVec.ofNat 8 recs.length] } ∧
        ∀ k : Fin 192,
          (∀ r, first.toNat ≤ k.val → recs[k.val - first.toNat]? = some r → EntryReads r t.imap[k]) ∧
          (k.val < first.toNat ∨ first.toNat + recs.length ≤ k.val → t.imap[k] = s.imap[k]))

/-! ## Reading requests -/

/-- R77, R84, R102: ReadKeys, ReadSection and ReadLayer change nothing but the link, and answer Done with the records as they stand. A count of 0
or above 4, a span beyond key 191, a section above 7, a layer above 7 and a preset field above 16 are refused with Refused-Value,
the fields given back. -/
def Obligations.ReadRequestsAnswerTheRecords : Prop :=
  ∀ (s : State) (tag : Byte) (rest : List Frame),
    (∀ (first : Fin 192) (count : Nat), 1 ≤ count → count ≤ 4 → first.val + count ≤ 192 →
      s.offers 0x07 tag [BitVec.ofNat 8 first.val, BitVec.ofNat 8 count] rest →
      exec .readKeys s =
        .next { s with
          lnk :=
            s.lnk.answered rest 0x07 tag 0x00
              (BitVec.ofNat 8 first.val :: BitVec.ofNat 8 count ::
                ((s.imap.toList.drop first.val).take count).flatMap KeyEntry.bytes) }) ∧
    (∀ first count : Byte, count.toNat = 0 ∨ 4 < count.toNat ∨ 192 < first.toNat + count.toNat →
      s.offers 0x07 tag [first, count] rest →
      exec .readKeys s = .next { s with lnk := s.lnk.answered rest 0x07 tag 0x12 [first, count] }) ∧
    (∀ n : Fin 8, s.offers 0x09 tag [BitVec.ofNat 8 n.val] rest →
      exec .readSection s =
        .next { s with
          lnk :=
            s.lnk.answered rest 0x09 tag 0x00
              (BitVec.ofNat 8 n.val ::
                (s.scn.records[n].bytes ++
                  [match s.scn.readiness[n] with | .off => 0 | .settling _ => 1 | .ready => 2])) }) ∧
    (∀ n : Byte, 7 < n.toNat → s.offers 0x09 tag [n] rest →
      exec .readSection s = .next { s with lnk := s.lnk.answered rest 0x09 tag 0x12 [n] }) ∧
    (∀ (p : Fin 16) (l : Fin 8), s.offers 0x10 tag [BitVec.ofNat 8 p.val, BitVec.ofNat 8 l.val] rest →
      exec .readLayer s =
        .next { s with
          lnk :=
            s.lnk.answered rest 0x10 tag 0x00
              (BitVec.ofNat 8 p.val :: BitVec.ofNat 8 l.val ::
                (s.reg.store[p].layers[l].bytes ++ [if s.reg.store[p].revoice then 1 else 0])) }) ∧
    (∀ l : Fin 8, s.offers 0x10 tag [16, BitVec.ofNat 8 l.val] rest →
      exec .readLayer s =
        .next { s with
          lnk :=
            s.lnk.answered rest 0x10 tag 0x00
              (16 :: BitVec.ofNat 8 l.val ::
                (s.reg.active[l].bytes ++ [(s.reg.activePreset.map fun p => BitVec.ofNat 8 p.val).getD 0xFF])) }) ∧
    (∀ p l : Byte, 16 < p.toNat ∨ 7 < l.toNat → s.offers 0x10 tag [p, l] rest →
      exec .readLayer s = .next { s with lnk := s.lnk.answered rest 0x10 tag 0x12 [p, l] })

/-- R187, R183: Status answers Done with the 35 bytes of the summary as they stand, and changes nothing else. -/
def Obligations.StatusAnswersTheSummary : Prop :=
  ∀ (s : State) (tag : Byte) (rest : List Frame), s.offers 0x12 tag [] rest →
    let b := fun n : Nat => BitVec.ofNat 8 n
    exec .status s =
      .next { s with
        lnk :=
          s.lnk.answered rest 0x12 tag 0x00
            ([if s.scn.cut then 1 else 0,
              match s.scn.cutCause with | none => 0 | some .line => 1 | some .request => 2,
              b s.scn.cutVoices,
              (s.reg.activePreset.map fun p => b p.val).getD 0xFF] ++
            (match s.reg.slot with
              | none => [0xFF, 0, 0]
              | some c =>
                [b c.preset.val, match c.trigger with | .reversal => 1 | .beat => 2 | .bar => 3,
                  match c.origin with | .request => 0 | .switch => 1]) ++
            [match s.blu.direction with | none => 0 | some .push => 1 | some .pull => 2,
              match s.blu.sensor with | .ok => 0 | .fault => 1,
              match s.tck.phase with | .stopped => 0 | .starting => 1 | .running => 2 | .coasting => 3,
              b (s.tck.period / 256), b s.tck.period, b s.tck.beatInBar] ++
            (List.finRange 8).map (fun n => b (s.soundingIn n)) ++
            [b s.releasingTotal, b s.val.held.length, b s.fill] ++ byte2s s.blu.offset ++
            [s.stu.sticky,
              (match s.blu.sensor with | .ok => 0 | .fault => 1) ||| (if s.scn.cut then 2 else 0),
              b s.stu.frameCount, b s.stu.lengthCount, b s.stu.gapCount, b s.stu.checkCount, b s.stu.overrunCount,
              b (s.stu.dropAttackCount / 256), b s.stu.dropAttackCount]) }

/-! ## Section Control -/

/-- R82, R83, R142: WriteSection with a legal range replaces the record by the clamped one and answers Done or Clamped with it; with the SOUNDING
count within the new limit nothing else changes. With a count above it the oldest SOUNDING voice of the section is ended with reason LIMIT,
as often as the count exceeds the limit (what one such ending does: EndingTheOldestVoice), which brings the count down to the limit; voices of
other sections and RELEASING ones stay. A section above 7, and a range that is not legal, are
refused with Refused-Value and change nothing. -/
def Obligations.WriteSectionReplacesTheRecord : Prop :=
  (∀ (s : State) (tag : Byte) (n : Fin 8) (r : SectionRecord) (rest : List Frame), RecordCarried r →
    s.offers 0x08 tag (BitVec.ofNat 8 n.val :: r.bytes) rest →
    (r.hi ≤ 127 → r.lo + 11 ≤ r.hi →
      ∃ t, exec .writeSection s = .next t ∧
        t = { s with
          scn := { s.scn with records := s.scn.records.set n r.taken }
          val := t.val
          evq := t.evq
          lnk :=
            s.lnk.answered rest 0x08 tag (if r.taken = r then 0x00 else 0x01)
              (BitVec.ofNat 8 n.val :: r.taken.bytes) } ∧
        (s.soundingIn n ≤ r.taken.polyphony → t.val = s.val ∧ t.evq = s.evq) ∧
        (let u := { s with
            scn := { s.scn with records := s.scn.records.set n r.taken }, lnk := { s.lnk with inbound := rest } }
         let ended := Nat.repeat (endOldest n .limit) (s.soundingIn n - r.taken.polyphony) u
         t.val = ended.val ∧ t.evq = ended.evq) ∧
        (r.taken.polyphony < s.soundingIn n → t.soundingIn n = r.taken.polyphony) ∧
        (∀ v : Fin 48, s.val.voices[v].sect ≠ n ∨ s.val.voices[v].state ≠ .sounding → t.val.voices[v] = s.val.voices[v])) ∧
    (127 < r.hi ∨ r.hi < r.lo + 11 →
      exec .writeSection s = .next { s with lnk := s.lnk.answered rest 0x08 tag 0x12 [BitVec.ofNat 8 n.val] })) ∧
  ∀ (s : State) (tag n : Byte) (record : List Byte) (rest : List Frame), 7 < n.toNat → record.length = 17 →
    s.offers 0x08 tag (n :: record) rest →
    exec .writeSection s = .next { s with lnk := s.lnk.answered rest 0x08 tag 0x12 [n] }

/-- R86, R87, R141: SectionReady. Ready with a settle time makes an OFF or SETTLING section SETTLING until then; with settle 0 it is READY at
once; a READY section stays as it is. Not ready makes it OFF. From READY the oldest SOUNDING voice of the section is ended with reason
SECTION as often as one is SOUNDING (what one such ending does: EndingTheOldestVoice), so that the NoteOff of each waits and the lists hold
none of them, and then the RELEASING voices of the section become FREE with no report: every voice of the section is FREE afterwards, every
other voice as it was, the held keys keep their entries, and no serial is taken. A section above 7, and a ready field above 1, are refused with Refused-Value and change nothing. -/
def Obligations.SectionReadyChangesReadiness : Prop :=
  (∀ (s : State) (tag settle : Byte) (n : Fin 8) (rest : List Frame),
    (s.offers 0x0A tag [BitVec.ofNat 8 n.val, 1, settle] rest →
      (s.scn.readiness[n] = .ready →
        exec .sectionReady s = .next { s with lnk := s.lnk.answered rest 0x0A tag 0x00 [BitVec.ofNat 8 n.val, 2] }) ∧
      (s.scn.readiness[n] ≠ .ready → settle ≠ 0 →
        exec .sectionReady s =
          .next { s with
            scn :=
              { s.scn with
                readiness := s.scn.readiness.set n (.settling (s.tick + BitVec.ofNat 32 (settle.toNat * 10))) }
            lnk := s.lnk.answered rest 0x0A tag 0x00 [BitVec.ofNat 8 n.val, 1] }) ∧
      (s.scn.readiness[n] ≠ .ready → settle = 0 →
        ∃ t, exec .sectionReady s = .next t ∧
          t = { s with
            scn := { s.scn with readiness := s.scn.readiness.set n .ready }
            exu := t.exu
            evq := t.evq
            lnk := s.lnk.answered rest 0x0A tag 0x00 [BitVec.ofNat 8 n.val, 2] } ∧
          (s.scn.cut = true → t.exu = s.exu ∧ t.evq = s.evq) ∧
          (s.scn.cut = false → s.holdsDynamic n = true ∨ s.soundingTotal + 1 ≤ 128 - s.fill →
            t.exu.sections[n].last = s.exu.sections[n].level ∧
            ∃ e ∈ t.evq.entries, e.report = .dynamic n s.exu.sections[n].level))) ∧
    (s.offers 0x0A tag [BitVec.ofNat 8 n.val, 0, settle] rest →
      (s.scn.readiness[n] ≠ .ready →
        exec .sectionReady s =
          .next { s with
            scn := { s.scn with readiness := s.scn.readiness.set n .off }
            lnk := s.lnk.answered rest 0x0A tag 0x00 [BitVec.ofNat 8 n.val, 0] }) ∧
      (s.scn.readiness[n] = .ready →
        ∃ t, exec .sectionReady s = .next t ∧
          t = { s with
            scn := { s.scn with readiness := s.scn.readiness.set n .off }
            val := t.val
            evq := t.evq
            lnk := s.lnk.answered rest 0x0A tag 0x00 [BitVec.ofNat 8 n.val, 0] } ∧
          (let u := { s with
              scn := { s.scn with readiness := s.scn.readiness.set n .off }, lnk := { s.lnk with inbound := rest } }
           let ended := Nat.repeat (endOldest n .sectionOff) (s.soundingIn n) u
           t.evq = ended.evq ∧
             t.val =
               { ended.val with
                 voices := ended.val.voices.map fun x =>
                   if x.sect = n ∧ x.state ≠ .free then { x with state := .free, holders := 0 } else x }) ∧
          t.val.serial = s.val.serial ∧ t.val.held.map HeldKey.key = s.val.held.map HeldKey.key ∧
          ∀ v : Fin 48,
            (s.val.voices[v].sect = n → t.val.voices[v].state = .free) ∧
            (s.val.voices[v].sect ≠ n → t.val.voices[v] = s.val.voices[v]) ∧
            (s.val.voices[v].sect = n → s.val.voices[v].state = .sounding →
              (∃ e ∈ t.evq.entries, e.report = .noteOff n s.val.voices[v].pitch .sectionOff) ∧
                ∀ h ∈ t.val.held, ∀ p ∈ h.pairs, p.voice ≠ v)))) ∧
  ∀ (s : State) (tag n ready settle : Byte) (rest : List Frame), 7 < n.toNat ∨ 1 < ready.toNat →
    s.offers 0x0A tag [n, ready, settle] rest →
    exec .sectionReady s = .next { s with lnk := s.lnk.answered rest 0x0A tag 0x12 [n] }

/-- R88, R89, R46, R47, and for the report's place R148, R149 and R151: when its settle expiry has come a SETTLING section becomes READY; in CUT nothing
else changes. In NORMAL its level is reported: a Dynamic entry of it that waits takes the level in place, keeping its due tick and
creation order; else, if the queue admits one, a new entry is due at now plus the alignment, or at the section's last-due where
that has not come and is later, and stands behind every entry that is due no later; else nothing is reported. That nothing happens before the expiry
is the model's choice (log entry 4), and the mark of a last-due that has not come is its own (log entry 22). -/
def Obligations.SettleExpiryMakesReady : Prop :=
  ∀ (s : State) (n : Fin 8) (d : Tick), s.inReset = none → s.scn.readiness[n] = .settling d →
    (¬ s.reached d → exec (.settleExpiry n.val) s = .next s) ∧
    (s.reached d →
      let level := s.exu.sections[n].level
      let earliest := s.tick + BitVec.ofNat 32 s.scn.records[n].alignment
      let due := if s.evq.ahead[n] = true ∧ 0 < (s.evq.lastDue[n] - earliest).toInt then s.evq.lastDue[n] else earliest
      let ahead := fun e : Entry => e.isAllOff || decide (0 ≤ (due - e.due).toInt)
      ∃ t, exec (.settleExpiry n.val) s = .next t ∧
        t = { s with
          scn := { s.scn with readiness := s.scn.readiness.set n .ready }, exu := t.exu, evq := t.evq } ∧
        (s.scn.cut = true → t.exu = s.exu ∧ t.evq = s.evq) ∧
        (s.scn.cut = false → s.holdsDynamic n = true →
          t.evq =
            { s.evq with
              entries :=
                s.evq.entries.map fun e => if e.isDynamicOf n = true then { e with report := .dynamic n level } else e }) ∧
        (s.scn.cut = false → s.holdsDynamic n = false → s.soundingTotal + 1 ≤ 128 - s.fill →
          t.evq =
            { entries :=
                s.evq.entries.takeWhile ahead ++
                  { report := .dynamic n level, due := due, order := s.evq.made } :: s.evq.entries.dropWhile ahead
              lastDue := s.evq.lastDue.set n due
              ahead := s.evq.ahead.set n (decide (due ≠ s.tick))
              made := s.evq.made + 1 }) ∧
        (s.scn.cut = false → s.holdsDynamic n = false → 128 - s.fill < s.soundingTotal + 1 →
          t.exu = s.exu ∧ t.evq = s.evq) ∧
        (s.scn.cut = false → s.holdsDynamic n = true ∨ s.soundingTotal + 1 ≤ 128 - s.fill →
          t.exu =
            { s.exu with
              sections := s.exu.sections.set n { s.exu.sections[n] with last := level } } ∧
          ∃ e ∈ t.evq.entries, e.report = .dynamic n level))

/-- R90, R91, R92: an accepted CUT edge cuts with cause LINE and the Cut request with cause REQUEST; in CUT the edge is ignored and the request
answers Done with the record as it stands. The accepted flag is the model's own (log entry 3). -/
def Obligations.CutEndsVoicesAndQueuesAllOff : Prop :=
  ∀ s : State,
    (s.inReset = none → s.scn.cutLine.accepted = true →
      let taken := { s with scn := { s.scn with cutLine := { s.scn.cutLine with accepted := false } } }
      (s.scn.cut = false → exec .cutEdge s = .next (taken.afterCut .line .line)) ∧
        (s.scn.cut = true → exec .cutEdge s = .next taken)) ∧
    ∀ (tag : Byte) (rest : List Frame), s.offers 0x0B tag [] rest →
      (s.scn.cut = false →
        exec .cutRequest s =
          .next { s.afterCut .request .request with
            lnk :=
              s.lnk.answered rest 0x0B tag 0x00
                [1, 2, BitVec.ofNat 8 (s.val.voices.toList.countP fun x => x.state != .free)] }) ∧
      (s.scn.cut = true →
        exec .cutRequest s =
          .next { s with
            lnk :=
              s.lnk.answered rest 0x0B tag 0x00
                [1, match s.scn.cutCause with | none => 0 | some .line => 1 | some .request => 2,
                  BitVec.ofNat 8 s.scn.cutVoices] })

/-- R94, R48, R46: Resume. While the CUT line is high it is refused; in NORMAL it is answered Done and changes nothing; with the line low it
completes with the part in NORMAL. Then each READY section has its level reported, in ascending section number, where a Dynamic entry of it
waits or the queue has room for eight: its last reported level is its level and a Dynamic entry with that level waits. With no room at all, and for a section
that is not READY, none is made and the last reported level stays. -/
def Obligations.ResumeReturnsToNormal : Prop :=
  ∀ (s : State) (tag : Byte) (rest : List Frame), s.offers 0x0C tag [] rest →
    (s.scn.cut = true → s.scn.lastCut = true →
      exec .resume s = .next { s with lnk := s.lnk.answered rest 0x0C tag 0x14 [1] }) ∧
    (s.scn.cut = true → s.scn.lastCut = false →
      ∃ t, exec .resume s = .next t ∧
        t = { s with
          scn := { s.scn with cut := false }
          exu := { s.exu with sections := t.exu.sections }
          evq := t.evq
          lnk := s.lnk.answered rest 0x0C tag 0x00 [0] } ∧
        (∀ n : Fin 8,
          let level := s.exu.sections[n].level
          let unreported := t.exu.sections[n] = s.exu.sections[n] ∧
            ∀ e ∈ t.evq.entries, e.isDynamicOf n = true → e ∈ s.evq.entries
          (s.scn.readiness[n] ≠ .ready → unreported) ∧
          (s.scn.readiness[n] = .ready → s.holdsDynamic n = true ∨ s.soundingTotal + 8 ≤ 128 - s.fill →
            t.exu.sections[n] = { s.exu.sections[n] with last := level } ∧
            ∃ e ∈ t.evq.entries, e.report = .dynamic n level) ∧
          (s.scn.readiness[n] = .ready → s.holdsDynamic n = false → 128 - s.fill < s.soundingTotal + 1 → unreported)) ∧
        (∀ e ∈ t.evq.entries, (∀ n, e.isDynamicOf n = false) → e ∈ s.evq.entries) ∧
        ((∀ e ∈ s.evq.entries, e.order < s.evq.made) →
          ∀ n m : Fin 8, ∀ e ∈ t.evq.entries, ∀ e' ∈ t.evq.entries, e.isDynamicOf n = true → e'.isDynamicOf m = true →
            s.evq.made ≤ e.order → e.order < e'.order → n < m)) ∧
    (s.scn.cut = false → exec .resume s = .next { s with lnk := s.lnk.answered rest 0x0C tag 0x00 [0] })

/-! ## Registration Unit -/

/-- R105, R106, R108, R140: SelectPreset. An illegal preset or condition is refused with Refused-Value, then CUT with Refused-Cut; a waiting condition
enters or replaces the slot; IMMEDIATE commits: the active layers and preset, the empty slot, the Registration report if the queue admits
it, and then, with REVOICE clear, nothing more, with REVOICE set every held key re-attacked in the committed direction, NONE
counting as PUSH. -/
def Obligations.SelectPresetCommitsOrWaits : Prop :=
  ∀ (s : State) (tag p c : Byte) (rest : List Frame), s.offers 0x0D tag [p, c] rest →
    let active := (s.reg.activePreset.map fun q => BitVec.ofNat 8 q.val).getD 0xFF
    (15 < p.toNat ∨ 3 < c.toNat →
      exec .selectPreset s = .next { s with lnk := s.lnk.answered rest 0x0D tag 0x12 [p, c, active] }) ∧
    (p.toNat ≤ 15 → c.toNat ≤ 3 → s.scn.cut = true →
      exec .selectPreset s = .next { s with lnk := s.lnk.answered rest 0x0D tag 0x13 [p, c, active] }) ∧
    ∀ q : Fin 16, q.val = p.toNat → s.scn.cut = false →
      (∀ w : Trigger, c.toNat = (match w with | .reversal => 1 | .beat => 2 | .bar => 3) →
        exec .selectPreset s =
          .next { s with
            reg := { s.reg with slot := some { preset := q, trigger := w, origin := .request } }
            lnk :=
              s.lnk.answered rest 0x0D tag (if s.reg.slot = none then 0x02 else 0x03) [p, c, active] }) ∧
      (c.toNat = 0 →
        ∃ t u : State, exec .selectPreset s = .next t ∧
          t.reg = { s.reg with active := s.reg.store[q].layers, activePreset := some q, slot := none } ∧
          t = { s with
            reg := t.reg, val := t.val, evq := t.evq, stu := t.stu
            lnk := s.lnk.answered rest 0x0D tag 0x00 [p, c, p] } ∧
          u = { s with reg := t.reg, evq := u.evq, lnk := { s.lnk with inbound := rest } } ∧
          (s.soundingTotal + 1 ≤ 128 - s.fill →
            u.evq = (pushGeneral (.registration q .request .immediate) s).evq ∧
            { report := .registration q .request .immediate, due := s.tick, order := s.evq.made } ∈ u.evq.entries) ∧
          (128 - s.fill < s.soundingTotal + 1 → u.evq = s.evq) ∧
          (s.reg.store[q].revoice = false → t.val = s.val ∧ t.stu = s.stu ∧ t.evq = u.evq) ∧
          (s.reg.store[q].revoice = true →
            t = { u.reattacked .revoice .revoice (s.blu.direction.getD .push) with lnk := t.lnk }))

/-- R110: CancelPending empties the slot and answers Done with what it held, or 0xFF, 0, 0. -/
def Obligations.CancelPendingEmptiesTheSlot : Prop :=
  ∀ (s : State) (tag : Byte) (rest : List Frame), s.offers 0x0E tag [] rest →
    exec .cancelPending s =
      .next { s with
        reg := { s.reg with slot := none }
        lnk :=
          s.lnk.answered rest 0x0E tag 0x00
            (match s.reg.slot with
              | none => [0xFF, 0, 0]
              | some c =>
                [BitVec.ofNat 8 c.preset.val, match c.trigger with | .reversal => 1 | .beat => 2 | .bar => 3,
                  match c.origin with | .request => 0 | .switch => 1]) }

/-- R100, R101: WriteLayer of a legal layer replaces that record of the store, its transpose clamped to -48 to 48, and nothing else of the part but
the link; the active layers stay; the answer is Done, or Clamped if the transpose was clamped. A preset above 15, a layer number above 7, and a record with a
field out of its range are refused with Refused-Value and change nothing. -/
def Obligations.WriteLayerReplacesTheRecord : Prop :=
  (∀ (s : State) (tag : Byte) (p : Fin 16) (n : Fin 8) (l : Layer) (rest : List Frame), LayerCarried l →
    s.offers 0x0F tag (BitVec.ofNat 8 p.val :: BitVec.ofNat 8 n.val :: l.bytes) rest →
    let taken := { l with transpose := max (-48) (min 48 l.transpose) }
    exec .writeLayer s =
      .next { s with
        reg :=
          { s.reg with
            store := s.reg.store.set p { s.reg.store[p] with layers := s.reg.store[p].layers.set n taken } }
        lnk :=
          s.lnk.answered rest 0x0F tag (if taken = l then 0x00 else 0x01)
            (BitVec.ofNat 8 p.val :: BitVec.ofNat 8 n.val :: taken.bytes) }) ∧
  ∀ (s : State) (tag p n : Byte) (record : List Byte) (rest : List Frame), record.length = 9 →
    15 < p.toNat ∨ 7 < n.toNat ∨ ¬ LayerRecordLegal record → s.offers 0x0F tag (p :: n :: record) rest →
    exec .writeLayer s = .next { s with lnk := s.lnk.answered rest 0x0F tag 0x12 [p, n] }

/-- R103: SetPresetFlags sets the preset's REVOICE flag and answers Done; a value above 1 or a preset above 15 is refused. -/
def Obligations.SetPresetFlagsSetsRevoice : Prop :=
  ∀ (s : State) (tag p v : Byte) (rest : List Frame), s.offers 0x11 tag [p, v] rest →
    (∀ q : Fin 16, q.val = p.toNat → v.toNat ≤ 1 →
      exec .setPresetFlags s =
        .next { s with
          reg := { s.reg with store := s.reg.store.set q { s.reg.store[q] with revoice := v.toNat == 1 } }
          lnk := s.lnk.answered rest 0x11 tag 0x00 [p, v] }) ∧
    (15 < p.toNat ∨ 1 < v.toNat →
      exec .setPresetFlags s = .next { s with lnk := s.lnk.answered rest 0x11 tag 0x12 [p, v] })

/-! ## Voice Allocator -/

/-- R124, R98, R123: folding moves a pitch by whole octaves, ends inside a range of at least 12 pitches, leaves a pitch inside it alone, and stops at
the first place inside. A transposed pitch within the range is placed as it is, one outside is folded under FOLD and skipped under DROP. An attack takes the
key's set for its direction in list order, and for each pitch the layers 0 to 7: where a layer is enabled, takes the key's class and
has the pitch in its window, the transposed pitch is ranged and placed in the layer's section. -/
def Obligations.FoldingEndsInTheRange : Prop :=
  (∀ lo hi t : Int, lo + 11 ≤ hi →
    (lo ≤ foldPitch lo hi t ∧ foldPitch lo hi t ≤ hi) ∧ (∃ n : Int, foldPitch lo hi t = t + 12 * n) ∧
      (lo ≤ t → t ≤ hi → foldPitch lo hi t = t) ∧ (t < lo → foldPitch lo hi t < lo + 12) ∧
      (hi < t → hi - 12 < foldPitch lo hi t)) ∧
  (∀ (r : SectionRecord) (mode : RangeMode) (t : Int),
    ((r.lo : Int) ≤ t → t ≤ (r.hi : Int) → rangedPitch r mode t = some t.toNat) ∧
      (t < (r.lo : Int) ∨ (r.hi : Int) < t →
        rangedPitch r .drop t = none ∧ rangedPitch r .fold t = some (foldPitch r.lo r.hi t).toNat)) ∧
  ∀ (k : Fin 192) (d : Side) (cause : NoteOnCause) (s : State),
    attack k d cause s =
      (match d with
        | .push => s.imap[k].push
        | .pull => s.imap[k].pull).foldl
        (fun (x : State) (p : Nat) =>
          (List.finRange 8).foldl
            (fun (x : State) (l : Fin 8) =>
              let layer := x.reg.active[l]
              if layer.enabled = true ∧
                  ((s.imap[k].cls = KeyClass.treble ∧ layer.mask.getLsbD 0 = true) ∨
                    (s.imap[k].cls = KeyClass.bassSingle ∧ layer.mask.getLsbD 1 = true) ∨
                    (s.imap[k].cls = KeyClass.bassChord ∧ layer.mask.getLsbD 2 = true)) ∧
                  layer.lo ≤ p ∧ p ≤ layer.hi
              then
                match rangedPitch x.scn.records[layer.sect] layer.mode ((p : Int) + layer.transpose) with
                | some t => placePitch k l layer.sect cause t x
                | none => x
              else x)
            x)
        s

/-- R125, R126, R128, R129, R130, R131, R49, R153: a pitch placed in a READY section where no voice has it. A full list of the key, or a refusal by the
queue, drops the attack, with DROPATTACK alone. Otherwise the oldest voice of a section at its limit is stolen first; then the lowest FREE entry, or with
none FREE the oldest RELEASING voice, becomes the voice with the next serial and holder count 1, the pair joins the key's list,
and the NoteOn is made, at the section's level, or with an ACCENT layer in an open window at level plus boost up to 255; with neither the attack is dropped. A
section that is not READY is skipped. -/
def Obligations.PlacingANewVoice : Prop :=
  ∀ (s : State) (k : Fin 192) (l n : Fin 8) (cause : NoteOnCause) (pitch : Nat),
    let level :=
      if s.reg.active[l].accent = true ∧ 0 < s.exu.accentCount then
        min 255 (s.exu.sections[n].level + s.exu.sections[n].boost)
      else s.exu.sections[n].level
    let u := if s.soundingIn n = s.scn.records[n].polyphony then endOldest n .stolen s else s
    let sounded := fun v : Fin 48 =>
      { pushSection n (.noteOn n pitch level cause) u with
        val :=
          { voices :=
              u.val.voices.set v
                { state := .sounding, sect := n, pitch := pitch, holders := 1, serial := s.val.serial + 1 }
            held :=
              u.val.held.map fun h =>
                if h.key = k then { h with pairs := h.pairs ++ [{ voice := v, layer := l }] } else h
            serial := s.val.serial + 1 } }
    (s.scn.readiness[n] ≠ .ready → placePitch k l n cause pitch s = s) ∧
    (s.scn.readiness[n] = .ready →
      (∀ v : Fin 48, s.val.voices[v].state = .free ∨ s.val.voices[v].sect ≠ n ∨ s.val.voices[v].pitch ≠ pitch) →
      (128 - s.fill < s.soundingTotal + 2 → placePitch k l n cause pitch s = raiseFlag .dropAttack s) ∧
      (16 ≤ (s.pairsOf k).length → placePitch k l n cause pitch s = raiseFlag .dropAttack s) ∧
      (s.soundingTotal + 2 ≤ 128 - s.fill → (s.pairsOf k).length < 16 →
        (∀ v : Fin 48, u.val.voices[v].state = .free → (∀ w : Fin 48, w < v → u.val.voices[w].state ≠ .free) →
          placePitch k l n cause pitch s = sounded v) ∧
        ((∀ v : Fin 48, u.val.voices[v].state ≠ .free) →
          (∃ v : Fin 48, u.val.voices[v].state ≠ .sounding) →
          ∃ v : Fin 48, u.val.voices[v].state ≠ .sounding ∧
            (∀ w : Fin 48, u.val.voices[w].state ≠ .sounding → u.val.voices[v].serial ≤ u.val.voices[w].serial) ∧
            placePitch k l n cause pitch s = sounded v) ∧
        ((∀ v : Fin 48, u.val.voices[v].state = .sounding) →
          placePitch k l n cause pitch s = raiseFlag .dropAttack u)))

/-- R125, R126, R127, R129, R130, R131, R49: a pitch placed where a voice of a READY section has it. A voice in the key's list already is skipped; with a full
list that lacks it the attack is dropped; a SOUNDING one gains a holder and a pair with no report; a RELEASING one, if the queue admits
it, becomes SOUNDING with the next serial and holder count 1, with its pair and a NoteOn of cause RETRIGGER, after the oldest voice of a
section at its limit is stolen; if refused, the attack is dropped and the voice stays RELEASING. -/
def Obligations.PlacingOnAStandingVoice : Prop :=
  ∀ (s : State) (k : Fin 192) (l n : Fin 8) (cause : NoteOnCause) (pitch : Nat) (v : Fin 48),
    s.scn.readiness[n] = .ready → s.val.voices[v].state ≠ .free → s.val.voices[v].sect = n → s.val.voices[v].pitch = pitch →
    (∀ w : Fin 48, s.val.voices[w].state ≠ .free → s.val.voices[w].sect = n → s.val.voices[w].pitch = pitch → w = v) →
    let level :=
      if s.reg.active[l].accent = true ∧ 0 < s.exu.accentCount then
        min 255 (s.exu.sections[n].level + s.exu.sections[n].boost)
      else s.exu.sections[n].level
    let u := if s.soundingIn n = s.scn.records[n].polyphony then endOldest n .stolen s else s
    let paired := fun held : List HeldKey =>
      held.map fun h => if h.key = k then { h with pairs := h.pairs ++ [{ voice := v, layer := l }] } else h
    let t := placePitch k l n cause pitch s
    ((∃ q ∈ s.pairsOf k, q.voice = v) → t = s) ∧
    ((∀ q ∈ s.pairsOf k, q.voice ≠ v) → 16 ≤ (s.pairsOf k).length → t = raiseFlag .dropAttack s) ∧
    ((∀ q ∈ s.pairsOf k, q.voice ≠ v) → (s.pairsOf k).length < 16 →
      (s.val.voices[v].state = .sounding →
        t = { s with
          val :=
            { s.val with
              voices := s.val.voices.set v { s.val.voices[v] with holders := s.val.voices[v].holders + 1 }
              held := paired s.val.held } }) ∧
      (s.val.voices[v].state ≠ .sounding →
        (128 - s.fill < s.soundingTotal + 2 → t = raiseFlag .dropAttack s) ∧
        (s.soundingTotal + 2 ≤ 128 - s.fill →
          t = { pushSection n (.noteOn n pitch level .retrigger) u with
            val :=
              { voices :=
                  u.val.voices.set v
                    { state := .sounding, sect := n, pitch := pitch, holders := 1, serial := s.val.serial + 1 }
                held := paired u.val.held
                serial := s.val.serial + 1 } })))

/-- R133: a voice released from one of several holders only loses a holder; released from its last, it makes a NoteOff and becomes FREE
with hold 0, or RELEASING until now + hold x 10 ticks. -/
def Obligations.ReleasingAVoice : Prop :=
  ∀ (s : State) (reason : NoteOffReason) (v : Fin 48),
    let x := s.val.voices[v]
    let hold := s.scn.records[x.sect].releaseHold
    let t := releaseVoice reason v s
    (2 ≤ x.holders →
      t = { s with
        val := { s.val with voices := s.val.voices.set v { x with holders := x.holders - 1 } } }) ∧
    (x.holders = 1 →
      t = { pushSection x.sect (.noteOff x.sect x.pitch reason) s with
        val :=
          { s.val with
            voices :=
              s.val.voices.set v
                { x with
                  state := if hold = 0 then .free else .releasing (s.tick + BitVec.ofNat 32 (hold * 10))
                  holders := 0 } } } ∧
      ∃ e ∈ t.evq.entries, e.report = .noteOff x.sect x.pitch reason)

/-- R129, R141, R142: of the SOUNDING voices of a section, one with the smallest serial is ended: its NoteOff of the reason is made, it is FREE with no
holder, no list holds it, and all else is as it was. -/
def Obligations.EndingTheOldestVoice : Prop :=
  ∀ (s : State) (n : Fin 8) (reason : NoteOffReason),
    (∃ v : Fin 48, s.val.voices[v].state = .sounding ∧ s.val.voices[v].sect = n) →
    ∃ v : Fin 48, (s.val.voices[v].state = .sounding ∧ s.val.voices[v].sect = n) ∧
      (∀ w : Fin 48, s.val.voices[w].state = .sounding → s.val.voices[w].sect = n →
        s.val.voices[v].serial ≤ s.val.voices[w].serial) ∧
      let t := endOldest n reason s
      t = { pushSection n (.noteOff n s.val.voices[v].pitch reason) s with
          val :=
            { s.val with
              voices := s.val.voices.set v { s.val.voices[v] with state := .free, holders := 0 }
              held := s.val.held.map fun h => { h with pairs := h.pairs.filter fun p => p.voice != v } } } ∧
        (∀ h ∈ t.val.held, ∀ p ∈ h.pairs, p.voice ≠ v) ∧
        ∃ e ∈ t.evq.entries, e.report = .noteOff n s.val.voices[v].pitch reason

/-- R134: when its release expiry has come a RELEASING voice becomes FREE with no report. That nothing happens before then is the model's
choice (log entry 4). -/
def Obligations.ReleaseExpiryFreesTheVoice : Prop :=
  ∀ (s : State) (v : Fin 48) (d : Tick), s.inReset = none → s.val.voices[v].state = .releasing d →
    (s.reached d →
      exec (.releaseExpiry v.val) s =
        .next { s with
          val :=
            { s.val with
              voices := s.val.voices.set v { s.val.voices[v] with state := .free, holders := 0 } } }) ∧
    (¬ s.reached d → exec (.releaseExpiry v.val) s = .next s)

/-- R112, R135, R136, R137, R138: a reversal to direction d. A waiting NEXT_REVERSAL change is committed first; with REVOICE set every key is
re-attacked with reason and cause REVOICE in direction d, and that is all. Otherwise each held key is carried across in table order: one whose two sets
differ is re-attacked with reason and cause REVERSAL; one whose sets are equal keeps its voices, each re-articulated if its layer has
REATTACK, it is SOUNDING, within its section's range, and has taken no serial in this reversal (log entry 7), and if the queue
admits it, with DROPATTACK if not. With nothing pending and no REATTACK layer, keys with equal sets only change direction. -/
def Obligations.ReversalKeepsKeysWithEqualSets : Prop :=
  (∀ (s : State) (d : Side), s.reg.slot = none → (∀ l : Fin 8, s.reg.active[l].reattack = false) →
    (∀ h ∈ s.val.held, s.pitchSet h.key h.side = s.pitchSet h.key d) →
    takeReversal d s = { s with val := { s.val with held := s.val.held.map fun h => { h with side := d } } }) ∧
  (∀ (s : State) (d : Side),
    (∀ c, s.reg.slot = some c → c.trigger = .reversal →
      (s.reg.store[c.preset].revoice = true →
        takeReversal d s =
          (s.registered c.preset (.next .reversal) c.origin).reattacked .revoice .revoice d) ∧
      (s.reg.store[c.preset].revoice = false →
        takeReversal d s = takeReversal d (s.registered c.preset (.next .reversal) c.origin))) ∧
    ((∀ c, s.reg.slot = some c → c.trigger ≠ .reversal) →
      takeReversal d s = s.val.held.foldl (fun x h => carryKey s.evq.made d h.key x) s)) ∧
  (∀ (x : State) (start : Nat) (d : Side) (h : HeldKey), x.val.held.find? (fun y => y.key == h.key) = some h →
    let turn := fun y : State =>
      { y with val := { y.val with held := y.val.held.map fun z => if z.key = h.key then { z with side := d } else z } }
    (x.pitchSet h.key h.side ≠ x.pitchSet h.key d →
      carryKey start d h.key x = reattack .reversal .reversal d h.key x) ∧
    (x.pitchSet h.key h.side = x.pitchSet h.key d →
      carryKey start d h.key x = turn (h.pairs.foldl (fun y p => carryPair start p y) x)) ∧
    ∀ (reason : NoteOffReason) (cause : NoteOnCause),
      reattack reason cause d h.key x =
        turn
          (attack h.key d cause
            (h.pairs.foldl (fun y p => releaseVoice reason p.voice y)
              { x with
                val :=
                  { x.val with held := x.val.held.map fun z => if z.key = h.key then { z with pairs := [] } else z } }))) ∧
  ∀ (x : State) (start : Nat) (p : Pair),
    let v := x.val.voices[p.voice]
    let level :=
      if x.reg.active[p.layer].accent = true ∧ 0 < x.exu.accentCount then
        min 255 (x.exu.sections[v.sect].level + x.exu.sections[v.sect].boost)
      else x.exu.sections[v.sect].level
    let may := x.reg.active[p.layer].reattack = true ∧ v.state = .sounding ∧ x.scn.records[v.sect].lo ≤ v.pitch ∧
      v.pitch ≤ x.scn.records[v.sect].hi ∧
      ∀ e ∈ x.evq.entries, ∀ y c, start ≤ e.order → e.report ≠ .noteOn v.sect v.pitch y c
    (¬ may → carryPair start p x = x) ∧
    (may → 128 - x.fill < x.soundingTotal + 2 → carryPair start p x = raiseFlag .dropAttack x) ∧
    (may → x.soundingTotal + 2 ≤ 128 - x.fill →
      carryPair start p x =
        { pushSection v.sect (.noteOn v.sect v.pitch level .reversal)
            (pushSection v.sect (.noteOff v.sect v.pitch .reversal) x) with
          val :=
            { x.val with
              voices := x.val.voices.set p.voice { v with serial := x.val.serial + 1 }, serial := x.val.serial + 1 } })

/-! ## Link Controller -/

/-- R170, R171: a byte arrives. HUNTING starts a frame at an unfaulted 0xD5 and discards any other byte; ASSEMBLING adds an unfaulted byte and
moves the gap time; a LEN above 48, a framing fault or 21 ticks without a byte abandon the frame, set the flag and count it,
and rescan: the held bytes are taken anew from HUNTING, as though each arrived now, so with no 0xD5 held the receiver is HUNTING. That
GAP does nothing before 21 ticks is the model's choice (log entry 4). -/
def Obligations.ReceiverTakesBytes : Prop :=
  ∀ (s : State) (b : Byte), s.inReset = none →
    (s.lnk.receiver = .hunting →
      (b = 0xD5 → exec (.byteArrival b false) s = .next { s with lnk := { s.lnk with receiver := .assembling [] s.tick } }) ∧
      (b ≠ 0xD5 → exec (.byteArrival b false) s = .next s) ∧ exec (.byteArrival b true) s = .next s) ∧
    ∀ (held : List Byte) (gapTime : Tick), s.lnk.receiver = .assembling held gapTime → frameIsComplete held = false →
      (¬ ((held ++ [b]).length = 3 ∧ 48 < b.toNat) →
        exec (.byteArrival b false) s =
          .next { s with lnk := { s.lnk with receiver := .assembling (held ++ [b]) s.tick } }) ∧
      ((held ++ [b]).length = 3 → 48 < b.toNat →
        exec (.byteArrival b false) s = .next (s.rescanned .length (held ++ [b])) ∧
        ((∀ x ∈ held ++ [b], x ≠ 0xD5) →
          ∃ t, exec (.byteArrival b false) s = .next t ∧
            t = { s with lnk := { s.lnk with receiver := .hunting }, stu := t.stu, evq := t.evq } ∧
            t.stu =
              { s.stu with
                sticky := s.stu.sticky ||| 0x04
                lengthCount := if s.stu.lengthCount < 255 then s.stu.lengthCount + 1 else s.stu.lengthCount })) ∧
      exec (.byteArrival b true) s = .next (s.rescanned .frame held) ∧
      (21 ≤ (s.tick - gapTime).toInt → exec .gap s = .next (s.rescanned .gap held)) ∧
      ((∀ x ∈ held, x ≠ 0xD5) →
        (∃ t, exec (.byteArrival b true) s = .next t ∧
          t = { s with lnk := { s.lnk with receiver := .hunting }, stu := t.stu, evq := t.evq } ∧
          t.stu =
            { s.stu with
              sticky := s.stu.sticky ||| 0x02
              frameCount := if s.stu.frameCount < 255 then s.stu.frameCount + 1 else s.stu.frameCount }) ∧
        (21 ≤ (s.tick - gapTime).toInt →
          ∃ t, exec .gap s = .next t ∧
            t = { s with lnk := { s.lnk with receiver := .hunting }, stu := t.stu, evq := t.evq } ∧
            t.stu =
              { s.stu with
                sticky := s.stu.sticky ||| 0x08
                gapCount := if s.stu.gapCount < 255 then s.stu.gapCount + 1 else s.stu.gapCount })) ∧
      ((s.tick - gapTime).toInt < 21 → exec .gap s = .next s)

/-- R167, R168, R171, R172: a complete frame, received as the bytes behind its SYNC. With a KIND of the request space it joins the inbound queue if
fewer than 4 wait, else OVERRUN is set and counted; with another KIND it is dropped; the receiver is HUNTING then. With a check that
does not agree CHECK is set and counted, and the held bytes are rescanned, so with no 0xD5 held the receiver is HUNTING. -/
def Obligations.CompleteFrameIsQueuedOrDropped : Prop :=
  ∀ (s : State) (f : Frame) (gapTime : Tick), s.inReset = none → f.payload.length ≤ 48 →
    (s.lnk.receiver = .assembling f.line.tail gapTime →
      (f.kind.toNat ≤ 0x3F → s.lnk.inbound.length < 4 →
        exec .frameComplete s =
          .next { s with lnk := { s.lnk with receiver := .hunting, inbound := s.lnk.inbound ++ [f] } }) ∧
      (f.kind.toNat ≤ 0x3F → 4 ≤ s.lnk.inbound.length →
        ∃ t, exec .frameComplete s = .next t ∧
          t = { s with lnk := { s.lnk with receiver := .hunting }, stu := t.stu, evq := t.evq } ∧
          t.stu =
            { s.stu with
              sticky := s.stu.sticky ||| 0x20
              overrunCount := if s.stu.overrunCount < 255 then s.stu.overrunCount + 1 else s.stu.overrunCount }) ∧
      (0x3F < f.kind.toNat →
        exec .frameComplete s = .next { s with lnk := { s.lnk with receiver := .hunting } })) ∧
    (∀ c1 c0 : Byte, byte2 (checkOf f.body).toNat ≠ [c1, c0] →
      s.lnk.receiver = .assembling (f.body ++ [c1, c0]) gapTime →
      exec .frameComplete s = .next (s.rescanned .check (f.body ++ [c1, c0])) ∧
      ((∀ x ∈ f.body ++ [c1, c0], x ≠ 0xD5) →
        ∃ t, exec .frameComplete s = .next t ∧
          t = { s with lnk := { s.lnk with receiver := .hunting }, stu := t.stu, evq := t.evq } ∧
          t.stu =
            { s.stu with
              sticky := s.stu.sticky ||| 0x10
              checkCount := if s.stu.checkCount < 255 then s.stu.checkCount + 1 else s.stu.checkCount }))

/-- R169, R174, R182: a request of an unassigned KIND is answered Refused-Kind with no data; a request whose LEN is not the length of its
kind is answered Refused-Length with no data. Nothing else changes. WriteKeys is judged by its count. -/
def Obligations.UnknownKindOrWrongLengthIsRefused : Prop :=
  ∀ (s : State) (kind tag : Byte) (payload : List Byte) (rest : List Frame), s.offers kind tag payload rest →
    (kind = 0 ∨ (0x14 < kind.toNat ∧ kind.toNat ≤ 0x3F) →
      exec .unknownRequest s = .next { s with lnk := s.lnk.answered rest kind tag 0x10 [] }) ∧
    (∀ (i : Instr) (len : Nat),
      (i, kind, len) ∈
        ([(.setScan, 0x01, 2), (.setBellows, 0x02, 3), (.calibrate, 0x03, 0), (.setExpression, 0x04, 10),
          (.setClock, 0x05, 2), (.readKeys, 0x07, 2), (.writeSection, 0x08, 18), (.readSection, 0x09, 1),
          (.sectionReady, 0x0A, 3), (.cutRequest, 0x0B, 0), (.resume, 0x0C, 0), (.selectPreset, 0x0D, 2),
          (.cancelPending, 0x0E, 0), (.writeLayer, 0x0F, 11), (.readLayer, 0x10, 2), (.setPresetFlags, 0x11, 2),
          (.status, 0x12, 0), (.clearFlags, 0x13, 1), (.reset, 0x14, 0)] : List (Instr × Byte × Nat)) →
      payload.length ≠ len → exec i s = .next { s with lnk := s.lnk.answered rest kind tag 0x11 [] }) ∧
    (kind = 0x06 →
      (payload.length < 2 → exec .writeKeys s = .next { s with lnk := s.lnk.answered rest 0x06 tag 0x11 [] }) ∧
      ∀ (first count : Byte) (more : List Byte), payload = first :: count :: more →
        (count.toNat = 0 ∨ 4 < count.toNat →
          exec .writeKeys s = .next { s with lnk := s.lnk.answered rest 0x06 tag 0x12 [first, count] }) ∧
        (1 ≤ count.toNat → count.toNat ≤ 4 → more.length ≠ 11 * count.toNat →
          exec .writeKeys s = .next { s with lnk := s.lnk.answered rest 0x06 tag 0x11 [] }))

/-- R155, R177, R178: an idle transmitter (TRANSMIT), and one whose frame has been sent (FRAME_SENT), takes the reply of the slot first, the handler
becoming IDLE; else the head entry if it is due, as a report frame with the report sequence as TAG; else nothing. R184, R181: the frame's KIND,
and its payload, the due tick in 4 bytes, most significant first (timeBytes), and the fields of the report, each kind's written out
(Report.laidOut); the frame's other bytes: RecordsSurviveTheLink. That FRAME_SENT makes the next
choice itself is the model's reading (log entry 8). -/
def Obligations.TransmitterTakesReplyThenDueReport : Prop :=
  ∀ (i : Instr) (s : State), s.inReset = none →
    (i = .transmit ∧ s.lnk.transmitter = .idle) ∨ (i = .frameSent ∧ s.lnk.transmitter ≠ .idle) →
    (∀ f, s.lnk.slot = some f →
      exec i s =
        .next { s with lnk := { s.lnk with slot := none, handler := .idle, transmitter := .sending f.line } }) ∧
    (s.lnk.slot = none → ∀ e es, s.evq.entries = e :: es →
      ((∃ c, e.report = .allOff c) ∨ s.reached e.due →
        exec i s =
          .next { s with
            evq := { s.evq with entries := es }
            lnk :=
              { s.lnk with
                transmitter :=
                  .sending (Frame.line { kind := e.report.laidOut.1, tag := s.lnk.sequence, payload := timeBytes e.due ++ e.report.laidOut.2 })
                sequence := s.lnk.sequence + 1 } }) ∧
      ((∀ c, e.report ≠ .allOff c) → ¬ s.reached e.due →
        exec i s = .next { s with lnk := { s.lnk with transmitter := .idle } })) ∧
    (s.lnk.slot = none → s.evq.entries = [] →
      exec i s = .next { s with lnk := { s.lnk with transmitter := .idle } })

/-! ## Status Unit -/

/-- R188: ClearFlags clears the flags its mask names, with their counters, and answers Done with the flag byte left. -/
def Obligations.ClearFlagsClearsTheNamedFlags : Prop :=
  ∀ (s : State) (tag mask : Byte) (rest : List Frame), s.offers 0x13 tag [mask] rest →
    let cleared := fun (bit count : Nat) => if mask.getLsbD bit = true then 0 else count
    exec .clearFlags s =
      .next { s with
        stu :=
          { sticky := s.stu.sticky &&& ~~~mask
            frameCount := cleared 1 s.stu.frameCount
            lengthCount := cleared 2 s.stu.lengthCount
            gapCount := cleared 3 s.stu.gapCount
            checkCount := cleared 4 s.stu.checkCount
            overrunCount := cleared 5 s.stu.overrunCount
            dropAttackCount := cleared 6 s.stu.dropAttackCount }
        lnk := s.lnk.answered rest 0x13 tag 0x00 [s.stu.sticky &&& ~~~mask] }

/-- R185, R186: an occurrence of any sticky flag sets it and raises its counter, to at most 255, or 65535 for DROPATTACK; CLIP and KEYFULL have
no counter. It makes a Fault report naming the flag exactly when the flag was clear and the queue admits it. -/
def Obligations.FirstOccurrenceIsReported : Prop :=
  ∀ (f : StickyFlag) (s : State),
    let bit : Nat :=
      match f with
      | .clip => 0 | .frame => 1 | .length => 2 | .gap => 3 | .check => 4 | .overrun => 5 | .dropAttack => 6
      | .keyFull => 7
    let counted := fun (g : StickyFlag) (highest count : Nat) => if g = f ∧ count < highest then count + 1 else count
    let t := raiseFlag f s
    t = { s with stu := t.stu, evq := t.evq } ∧
      t.stu =
        { sticky := s.stu.sticky ||| (1#8 <<< bit)
          frameCount := counted .frame 255 s.stu.frameCount
          lengthCount := counted .length 255 s.stu.lengthCount
          gapCount := counted .gap 255 s.stu.gapCount
          checkCount := counted .check 255 s.stu.checkCount
          overrunCount := counted .overrun 255 s.stu.overrunCount
          dropAttackCount := counted .dropAttack 65535 s.stu.dropAttackCount } ∧
      (s.stu.sticky.getLsbD bit = true ∨ 128 - s.fill < s.soundingTotal + 1 → t.evq = s.evq) ∧
      (s.stu.sticky.getLsbD bit = false → s.soundingTotal + 1 ≤ 128 - s.fill →
        t.evq.entries.length = s.evq.entries.length + 1 ∧
        { report := .fault (.sticky f), due := s.tick, order := s.evq.made } ∈ t.evq.entries)

/-! ## Records on the link -/

/-- R181: the three records read back from their bytes as they were written, for every record the part can hold, and their bytes stand
at the offsets and with the codes of R181, written out here (positions beyond a set's length are 0). R167, R168: a frame on the line is 0xD5, KIND, TAG, LEN, the
payload and the check, high byte first; the check starts at 0xFFFF, and each byte of KIND, TAG, LEN and payload is combined with the
upper eight bits and shifted out bit by bit, 0x1021 being combined where a 1 goes out. A two-byte field is sent most significant byte first,
a signed one in two's complement. -/
def Obligations.RecordsSurviveTheLink : Prop :=
  let b := fun n : Nat => BitVec.ofNat 8 n
  let bit := fun x : Bool => if x = true then b 1 else b 0
  ((∀ e : KeyEntry, KeyEntryLegal e → keyEntryOf e.bytes = some e) ∧
    (∀ r : SectionRecord, RecordCarried r → sectionRecordOf r.bytes = r) ∧
    (∀ l : Layer, LayerLegal l → layerOf l.bytes = some l)) ∧
  (∀ e : KeyEntry,
    e.bytes =
      [b ((match e.condition with
            | .immediate => 0 | .next .reversal => 1 | .next .beat => 2 | .next .bar => 3) * 16 +
          (match e.cls with
            | .unused => 0 | .treble => 1 | .bassSingle => 2 | .bassChord => 3 | .register => 4)),
        b (e.push.length * 16 + e.pull.length),
        b (e.push.getD 0 0), b (e.push.getD 1 0), b (e.push.getD 2 0), b (e.push.getD 3 0),
        b (e.pull.getD 0 0), b (e.pull.getD 1 0), b (e.pull.getD 2 0), b (e.pull.getD 3 0), b e.preset.val]) ∧
  (∀ r : SectionRecord,
    r.bytes =
      [b r.polyphony, b r.lo, b r.hi, b (r.releaseHold / 256), b r.releaseHold, b (r.alignment / 256), b r.alignment,
        b r.boost, b r.curve[0], b r.curve[1], b r.curve[2], b r.curve[3], b r.curve[4], b r.curve[5], b r.curve[6],
        b r.curve[7], b r.curve[8]]) ∧
  (∀ l : Layer,
    l.bytes =
      [bit l.enabled, b l.mask.toNat, b l.lo, b l.hi, BitVec.ofInt 8 l.transpose, b l.sect.val,
        match l.mode with | .fold => 0 | .drop => 1, bit l.reattack, bit l.accent]) ∧
  (∀ f : Frame,
    f.body = f.kind :: f.tag :: b f.payload.length :: f.payload ∧
      f.line =
        0xD5 :: (f.kind :: f.tag :: b f.payload.length :: f.payload) ++
          [b ((checkOf f.body).toNat / 256), b (checkOf f.body).toNat]) ∧
  (checkOf [] = 0xFFFF ∧
    ∀ (bytes : List Byte) (x : Byte),
      let shift := fun r : BitVec 16 => if r.getLsbD 15 = true then (r <<< 1) ^^^ 0x1021 else r <<< 1
      checkOf (bytes ++ [x]) = Nat.repeat shift 8 (checkOf bytes ^^^ (x.zeroExtend 16 <<< 8))) ∧
  (∀ n : Nat, byte2 n = [b (n / 256), b n]) ∧
  ∀ i : Int, -32768 ≤ i → i ≤ 32767 → byte2s i = [b ((i % 65536).toNat / 256), b (i % 65536).toNat]

/-! ## Laws that every step keeps -/

/-- R93, R107, R131, R45, R48: in CUT no key is held, no voice is live, nothing is pending, the accent window is closed and no note or dynamic report
waits; every step keeps it. -/
def Obligations.EveryStepKeepsTheCutSilent : Prop :=
  ∀ s t : State, SilentInCut s → step s = .next t → SilentInCut t

/-- R6, R120, R121, R152: held keys are DOWN, the held-key table is legal, holder counts are the listings, and the free entries are never fewer than the
SOUNDING voices; every step keeps these together. -/
def Obligations.EveryStepKeepsTheTables : Prop :=
  ∀ s t : State, TablesLawful s → step s = .next t → TablesLawful t

/-- R85, R126, R128: no two live voices share section and pitch, every live voice is in a READY section, and no SOUNDING count exceeds its limit;
every step keeps these together, in states whose tables are lawful (kept too: EveryStepKeepsTheTables). -/
def Obligations.EveryStepKeepsTheVoices : Prop :=
  ∀ s t : State, TablesLawful s → VoicesLawful s → step s = .next t → VoicesLawful t

/-- R37: force and smoothed force within 0 to 4095 and every level within 0 to 255, with the curve points and the history they come from; every
step keeps it. -/
def Obligations.EveryStepKeepsTheLevels : Prop :=
  ∀ s t : State, LevelsInRange s → step s = .next t → LevelsInRange t

/-- The ranges of the tables at the head of chapters 2 and 4 and R173, R176: bellows, clock and handler state; every step keeps them together. -/
def Obligations.EveryStepKeepsTheRanges : Prop :=
  ∀ s t : State, BellowsLegal s → ClockLegal s → HandlerLegal s → step s = .next t →
    BellowsLegal t ∧ ClockLegal t ∧ HandlerLegal t

/-- R151, R148, R149, R159: at most one Dynamic entry of each section waits. An AllOff stands at the head alone, the other entries stand in due-tick order,
those of one due tick in creation order, and those of one section in creation order. Every step keeps the first; and, together
with the bounds on due ticks that R149 gives, the second, in states whose due ticks lie near now, as R148 says they do. -/
def Obligations.EveryStepKeepsDynamicsSingle : Prop :=
  (∀ s t : State, DynamicsSingle s → step s = .next t → DynamicsSingle t) ∧
    ∀ s t : State, QueueOrdered s → DuesLawful s → DuesNear s → step s = .next t → QueueOrdered t ∧ DuesLawful t
end

