-- ==== Sys2Proof/Laws/State.lean ====
section
/-! SUPPORT. One lemma for each field of State and each block update, true by rfl. -/

namespace Sys2Proof.Machine

section
variable (s : State)

@[simp] theorem State.withKsc_tick (x : Scanner) : (s.withKsc x).tick = s.tick := rfl
@[simp] theorem State.withKsc_inReset (x : Scanner) : (s.withKsc x).inReset = s.inReset := rfl
@[simp] theorem State.withKsc_ksc (x : Scanner) : (s.withKsc x).ksc = x := rfl
@[simp] theorem State.withKsc_imap (x : Scanner) : (s.withKsc x).imap = s.imap := rfl
@[simp] theorem State.withKsc_blu (x : Scanner) : (s.withKsc x).blu = s.blu := rfl
@[simp] theorem State.withKsc_exu (x : Scanner) : (s.withKsc x).exu = s.exu := rfl
@[simp] theorem State.withKsc_tck (x : Scanner) : (s.withKsc x).tck = s.tck := rfl
@[simp] theorem State.withKsc_scn (x : Scanner) : (s.withKsc x).scn = s.scn := rfl
@[simp] theorem State.withKsc_reg (x : Scanner) : (s.withKsc x).reg = s.reg := rfl
@[simp] theorem State.withKsc_val (x : Scanner) : (s.withKsc x).val = s.val := rfl
@[simp] theorem State.withKsc_evq (x : Scanner) : (s.withKsc x).evq = s.evq := rfl
@[simp] theorem State.withKsc_lnk (x : Scanner) : (s.withKsc x).lnk = s.lnk := rfl
@[simp] theorem State.withKsc_stu (x : Scanner) : (s.withKsc x).stu = s.stu := rfl
@[simp] theorem State.withKsc_picks (x : Scanner) : (s.withKsc x).picks = s.picks := rfl
@[simp] theorem State.withKsc_pending (x : Scanner) : (s.withKsc x).pending = s.pending := rfl

@[simp] theorem State.withImap_tick (x : Vector KeyEntry 192) : (s.withImap x).tick = s.tick := rfl
@[simp] theorem State.withImap_inReset (x : Vector KeyEntry 192) : (s.withImap x).inReset = s.inReset := rfl
@[simp] theorem State.withImap_ksc (x : Vector KeyEntry 192) : (s.withImap x).ksc = s.ksc := rfl
@[simp] theorem State.withImap_imap (x : Vector KeyEntry 192) : (s.withImap x).imap = x := rfl
@[simp] theorem State.withImap_blu (x : Vector KeyEntry 192) : (s.withImap x).blu = s.blu := rfl
@[simp] theorem State.withImap_exu (x : Vector KeyEntry 192) : (s.withImap x).exu = s.exu := rfl
@[simp] theorem State.withImap_tck (x : Vector KeyEntry 192) : (s.withImap x).tck = s.tck := rfl
@[simp] theorem State.withImap_scn (x : Vector KeyEntry 192) : (s.withImap x).scn = s.scn := rfl
@[simp] theorem State.withImap_reg (x : Vector KeyEntry 192) : (s.withImap x).reg = s.reg := rfl
@[simp] theorem State.withImap_val (x : Vector KeyEntry 192) : (s.withImap x).val = s.val := rfl
@[simp] theorem State.withImap_evq (x : Vector KeyEntry 192) : (s.withImap x).evq = s.evq := rfl
@[simp] theorem State.withImap_lnk (x : Vector KeyEntry 192) : (s.withImap x).lnk = s.lnk := rfl
@[simp] theorem State.withImap_stu (x : Vector KeyEntry 192) : (s.withImap x).stu = s.stu := rfl
@[simp] theorem State.withImap_picks (x : Vector KeyEntry 192) : (s.withImap x).picks = s.picks := rfl
@[simp] theorem State.withImap_pending (x : Vector KeyEntry 192) : (s.withImap x).pending = s.pending := rfl

@[simp] theorem State.withBlu_tick (x : Bellows) : (s.withBlu x).tick = s.tick := rfl
@[simp] theorem State.withBlu_inReset (x : Bellows) : (s.withBlu x).inReset = s.inReset := rfl
@[simp] theorem State.withBlu_ksc (x : Bellows) : (s.withBlu x).ksc = s.ksc := rfl
@[simp] theorem State.withBlu_imap (x : Bellows) : (s.withBlu x).imap = s.imap := rfl
@[simp] theorem State.withBlu_blu (x : Bellows) : (s.withBlu x).blu = x := rfl
@[simp] theorem State.withBlu_exu (x : Bellows) : (s.withBlu x).exu = s.exu := rfl
@[simp] theorem State.withBlu_tck (x : Bellows) : (s.withBlu x).tck = s.tck := rfl
@[simp] theorem State.withBlu_scn (x : Bellows) : (s.withBlu x).scn = s.scn := rfl
@[simp] theorem State.withBlu_reg (x : Bellows) : (s.withBlu x).reg = s.reg := rfl
@[simp] theorem State.withBlu_val (x : Bellows) : (s.withBlu x).val = s.val := rfl
@[simp] theorem State.withBlu_evq (x : Bellows) : (s.withBlu x).evq = s.evq := rfl
@[simp] theorem State.withBlu_lnk (x : Bellows) : (s.withBlu x).lnk = s.lnk := rfl
@[simp] theorem State.withBlu_stu (x : Bellows) : (s.withBlu x).stu = s.stu := rfl
@[simp] theorem State.withBlu_picks (x : Bellows) : (s.withBlu x).picks = s.picks := rfl
@[simp] theorem State.withBlu_pending (x : Bellows) : (s.withBlu x).pending = s.pending := rfl

@[simp] theorem State.withExu_tick (x : Expression) : (s.withExu x).tick = s.tick := rfl
@[simp] theorem State.withExu_inReset (x : Expression) : (s.withExu x).inReset = s.inReset := rfl
@[simp] theorem State.withExu_ksc (x : Expression) : (s.withExu x).ksc = s.ksc := rfl
@[simp] theorem State.withExu_imap (x : Expression) : (s.withExu x).imap = s.imap := rfl
@[simp] theorem State.withExu_blu (x : Expression) : (s.withExu x).blu = s.blu := rfl
@[simp] theorem State.withExu_exu (x : Expression) : (s.withExu x).exu = x := rfl
@[simp] theorem State.withExu_tck (x : Expression) : (s.withExu x).tck = s.tck := rfl
@[simp] theorem State.withExu_scn (x : Expression) : (s.withExu x).scn = s.scn := rfl
@[simp] theorem State.withExu_reg (x : Expression) : (s.withExu x).reg = s.reg := rfl
@[simp] theorem State.withExu_val (x : Expression) : (s.withExu x).val = s.val := rfl
@[simp] theorem State.withExu_evq (x : Expression) : (s.withExu x).evq = s.evq := rfl
@[simp] theorem State.withExu_lnk (x : Expression) : (s.withExu x).lnk = s.lnk := rfl
@[simp] theorem State.withExu_stu (x : Expression) : (s.withExu x).stu = s.stu := rfl
@[simp] theorem State.withExu_picks (x : Expression) : (s.withExu x).picks = s.picks := rfl
@[simp] theorem State.withExu_pending (x : Expression) : (s.withExu x).pending = s.pending := rfl

@[simp] theorem State.withTck_tick (x : Clock) : (s.withTck x).tick = s.tick := rfl
@[simp] theorem State.withTck_inReset (x : Clock) : (s.withTck x).inReset = s.inReset := rfl
@[simp] theorem State.withTck_ksc (x : Clock) : (s.withTck x).ksc = s.ksc := rfl
@[simp] theorem State.withTck_imap (x : Clock) : (s.withTck x).imap = s.imap := rfl
@[simp] theorem State.withTck_blu (x : Clock) : (s.withTck x).blu = s.blu := rfl
@[simp] theorem State.withTck_exu (x : Clock) : (s.withTck x).exu = s.exu := rfl
@[simp] theorem State.withTck_tck (x : Clock) : (s.withTck x).tck = x := rfl
@[simp] theorem State.withTck_scn (x : Clock) : (s.withTck x).scn = s.scn := rfl
@[simp] theorem State.withTck_reg (x : Clock) : (s.withTck x).reg = s.reg := rfl
@[simp] theorem State.withTck_val (x : Clock) : (s.withTck x).val = s.val := rfl
@[simp] theorem State.withTck_evq (x : Clock) : (s.withTck x).evq = s.evq := rfl
@[simp] theorem State.withTck_lnk (x : Clock) : (s.withTck x).lnk = s.lnk := rfl
@[simp] theorem State.withTck_stu (x : Clock) : (s.withTck x).stu = s.stu := rfl
@[simp] theorem State.withTck_picks (x : Clock) : (s.withTck x).picks = s.picks := rfl
@[simp] theorem State.withTck_pending (x : Clock) : (s.withTck x).pending = s.pending := rfl

@[simp] theorem State.withScn_tick (x : SectionControl) : (s.withScn x).tick = s.tick := rfl
@[simp] theorem State.withScn_inReset (x : SectionControl) : (s.withScn x).inReset = s.inReset := rfl
@[simp] theorem State.withScn_ksc (x : SectionControl) : (s.withScn x).ksc = s.ksc := rfl
@[simp] theorem State.withScn_imap (x : SectionControl) : (s.withScn x).imap = s.imap := rfl
@[simp] theorem State.withScn_blu (x : SectionControl) : (s.withScn x).blu = s.blu := rfl
@[simp] theorem State.withScn_exu (x : SectionControl) : (s.withScn x).exu = s.exu := rfl
@[simp] theorem State.withScn_tck (x : SectionControl) : (s.withScn x).tck = s.tck := rfl
@[simp] theorem State.withScn_scn (x : SectionControl) : (s.withScn x).scn = x := rfl
@[simp] theorem State.withScn_reg (x : SectionControl) : (s.withScn x).reg = s.reg := rfl
@[simp] theorem State.withScn_val (x : SectionControl) : (s.withScn x).val = s.val := rfl
@[simp] theorem State.withScn_evq (x : SectionControl) : (s.withScn x).evq = s.evq := rfl
@[simp] theorem State.withScn_lnk (x : SectionControl) : (s.withScn x).lnk = s.lnk := rfl
@[simp] theorem State.withScn_stu (x : SectionControl) : (s.withScn x).stu = s.stu := rfl
@[simp] theorem State.withScn_picks (x : SectionControl) : (s.withScn x).picks = s.picks := rfl
@[simp] theorem State.withScn_pending (x : SectionControl) : (s.withScn x).pending = s.pending := rfl

@[simp] theorem State.withReg_tick (x : Registration) : (s.withReg x).tick = s.tick := rfl
@[simp] theorem State.withReg_inReset (x : Registration) : (s.withReg x).inReset = s.inReset := rfl
@[simp] theorem State.withReg_ksc (x : Registration) : (s.withReg x).ksc = s.ksc := rfl
@[simp] theorem State.withReg_imap (x : Registration) : (s.withReg x).imap = s.imap := rfl
@[simp] theorem State.withReg_blu (x : Registration) : (s.withReg x).blu = s.blu := rfl
@[simp] theorem State.withReg_exu (x : Registration) : (s.withReg x).exu = s.exu := rfl
@[simp] theorem State.withReg_tck (x : Registration) : (s.withReg x).tck = s.tck := rfl
@[simp] theorem State.withReg_scn (x : Registration) : (s.withReg x).scn = s.scn := rfl
@[simp] theorem State.withReg_reg (x : Registration) : (s.withReg x).reg = x := rfl
@[simp] theorem State.withReg_val (x : Registration) : (s.withReg x).val = s.val := rfl
@[simp] theorem State.withReg_evq (x : Registration) : (s.withReg x).evq = s.evq := rfl
@[simp] theorem State.withReg_lnk (x : Registration) : (s.withReg x).lnk = s.lnk := rfl
@[simp] theorem State.withReg_stu (x : Registration) : (s.withReg x).stu = s.stu := rfl
@[simp] theorem State.withReg_picks (x : Registration) : (s.withReg x).picks = s.picks := rfl
@[simp] theorem State.withReg_pending (x : Registration) : (s.withReg x).pending = s.pending := rfl

@[simp] theorem State.withVal_tick (x : Allocator) : (s.withVal x).tick = s.tick := rfl
@[simp] theorem State.withVal_inReset (x : Allocator) : (s.withVal x).inReset = s.inReset := rfl
@[simp] theorem State.withVal_ksc (x : Allocator) : (s.withVal x).ksc = s.ksc := rfl
@[simp] theorem State.withVal_imap (x : Allocator) : (s.withVal x).imap = s.imap := rfl
@[simp] theorem State.withVal_blu (x : Allocator) : (s.withVal x).blu = s.blu := rfl
@[simp] theorem State.withVal_exu (x : Allocator) : (s.withVal x).exu = s.exu := rfl
@[simp] theorem State.withVal_tck (x : Allocator) : (s.withVal x).tck = s.tck := rfl
@[simp] theorem State.withVal_scn (x : Allocator) : (s.withVal x).scn = s.scn := rfl
@[simp] theorem State.withVal_reg (x : Allocator) : (s.withVal x).reg = s.reg := rfl
@[simp] theorem State.withVal_val (x : Allocator) : (s.withVal x).val = x := rfl
@[simp] theorem State.withVal_evq (x : Allocator) : (s.withVal x).evq = s.evq := rfl
@[simp] theorem State.withVal_lnk (x : Allocator) : (s.withVal x).lnk = s.lnk := rfl
@[simp] theorem State.withVal_stu (x : Allocator) : (s.withVal x).stu = s.stu := rfl
@[simp] theorem State.withVal_picks (x : Allocator) : (s.withVal x).picks = s.picks := rfl
@[simp] theorem State.withVal_pending (x : Allocator) : (s.withVal x).pending = s.pending := rfl

@[simp] theorem State.withEvq_tick (x : EventQueue) : (s.withEvq x).tick = s.tick := rfl
@[simp] theorem State.withEvq_inReset (x : EventQueue) : (s.withEvq x).inReset = s.inReset := rfl
@[simp] theorem State.withEvq_ksc (x : EventQueue) : (s.withEvq x).ksc = s.ksc := rfl
@[simp] theorem State.withEvq_imap (x : EventQueue) : (s.withEvq x).imap = s.imap := rfl
@[simp] theorem State.withEvq_blu (x : EventQueue) : (s.withEvq x).blu = s.blu := rfl
@[simp] theorem State.withEvq_exu (x : EventQueue) : (s.withEvq x).exu = s.exu := rfl
@[simp] theorem State.withEvq_tck (x : EventQueue) : (s.withEvq x).tck = s.tck := rfl
@[simp] theorem State.withEvq_scn (x : EventQueue) : (s.withEvq x).scn = s.scn := rfl
@[simp] theorem State.withEvq_reg (x : EventQueue) : (s.withEvq x).reg = s.reg := rfl
@[simp] theorem State.withEvq_val (x : EventQueue) : (s.withEvq x).val = s.val := rfl
@[simp] theorem State.withEvq_evq (x : EventQueue) : (s.withEvq x).evq = x := rfl
@[simp] theorem State.withEvq_lnk (x : EventQueue) : (s.withEvq x).lnk = s.lnk := rfl
@[simp] theorem State.withEvq_stu (x : EventQueue) : (s.withEvq x).stu = s.stu := rfl
@[simp] theorem State.withEvq_picks (x : EventQueue) : (s.withEvq x).picks = s.picks := rfl
@[simp] theorem State.withEvq_pending (x : EventQueue) : (s.withEvq x).pending = s.pending := rfl

@[simp] theorem State.withLnk_tick (x : Link) : (s.withLnk x).tick = s.tick := rfl
@[simp] theorem State.withLnk_inReset (x : Link) : (s.withLnk x).inReset = s.inReset := rfl
@[simp] theorem State.withLnk_ksc (x : Link) : (s.withLnk x).ksc = s.ksc := rfl
@[simp] theorem State.withLnk_imap (x : Link) : (s.withLnk x).imap = s.imap := rfl
@[simp] theorem State.withLnk_blu (x : Link) : (s.withLnk x).blu = s.blu := rfl
@[simp] theorem State.withLnk_exu (x : Link) : (s.withLnk x).exu = s.exu := rfl
@[simp] theorem State.withLnk_tck (x : Link) : (s.withLnk x).tck = s.tck := rfl
@[simp] theorem State.withLnk_scn (x : Link) : (s.withLnk x).scn = s.scn := rfl
@[simp] theorem State.withLnk_reg (x : Link) : (s.withLnk x).reg = s.reg := rfl
@[simp] theorem State.withLnk_val (x : Link) : (s.withLnk x).val = s.val := rfl
@[simp] theorem State.withLnk_evq (x : Link) : (s.withLnk x).evq = s.evq := rfl
@[simp] theorem State.withLnk_lnk (x : Link) : (s.withLnk x).lnk = x := rfl
@[simp] theorem State.withLnk_stu (x : Link) : (s.withLnk x).stu = s.stu := rfl
@[simp] theorem State.withLnk_picks (x : Link) : (s.withLnk x).picks = s.picks := rfl
@[simp] theorem State.withLnk_pending (x : Link) : (s.withLnk x).pending = s.pending := rfl

@[simp] theorem State.withStu_tick (x : StatusUnit) : (s.withStu x).tick = s.tick := rfl
@[simp] theorem State.withStu_inReset (x : StatusUnit) : (s.withStu x).inReset = s.inReset := rfl
@[simp] theorem State.withStu_ksc (x : StatusUnit) : (s.withStu x).ksc = s.ksc := rfl
@[simp] theorem State.withStu_imap (x : StatusUnit) : (s.withStu x).imap = s.imap := rfl
@[simp] theorem State.withStu_blu (x : StatusUnit) : (s.withStu x).blu = s.blu := rfl
@[simp] theorem State.withStu_exu (x : StatusUnit) : (s.withStu x).exu = s.exu := rfl
@[simp] theorem State.withStu_tck (x : StatusUnit) : (s.withStu x).tck = s.tck := rfl
@[simp] theorem State.withStu_scn (x : StatusUnit) : (s.withStu x).scn = s.scn := rfl
@[simp] theorem State.withStu_reg (x : StatusUnit) : (s.withStu x).reg = s.reg := rfl
@[simp] theorem State.withStu_val (x : StatusUnit) : (s.withStu x).val = s.val := rfl
@[simp] theorem State.withStu_evq (x : StatusUnit) : (s.withStu x).evq = s.evq := rfl
@[simp] theorem State.withStu_lnk (x : StatusUnit) : (s.withStu x).lnk = s.lnk := rfl
@[simp] theorem State.withStu_stu (x : StatusUnit) : (s.withStu x).stu = x := rfl
@[simp] theorem State.withStu_picks (x : StatusUnit) : (s.withStu x).picks = s.picks := rfl
@[simp] theorem State.withStu_pending (x : StatusUnit) : (s.withStu x).pending = s.pending := rfl

end

@[simp] theorem State.running_eq (s : State) : s.running = s.inReset.isNone := rfl

/-- A running part carries the effect out. -/
theorem whileRunning_of_running {effect : State → State} {s : State} (h : s.inReset = none) :
    whileRunning effect s = .next (effect s) := by
  simp [whileRunning, h]

/-- A part held in reset does nothing. -/
theorem whileRunning_of_reset {effect : State → State} {s : State} {c : ResetCause} (h : s.inReset = some c) :
    whileRunning effect s = .next s := by
  simp [whileRunning, h]

/-- What a command answers, said once: the next state is the effect on a running part, and the state itself otherwise. -/
theorem whileRunning_eq_next {effect : State → State} {s t : State} :
    whileRunning effect s = .next t ↔ t = if s.inReset = none then effect s else s := by
  cases h : s.inReset <;> simp [whileRunning, h, eq_comm]

end Sys2Proof.Machine
end

