-- ==== Sys2Proof/Laws/Frames.lean ====
section
/-! SUPPORT. What each shared operation can change, said once: relations between a state and the state after it, reflexive and
transitive, with one lemma for each operation. Every other block is read off them by rfl-lemmas. -/

namespace Sys2Proof.Machine

/-- At most the Event Queue differs. -/
def QueueOnly (s t : State) : Prop := t = s.withEvq t.evq

/-- At most the Event Queue and the Status Unit differ. -/
def NoticesOnly (s t : State) : Prop := t = (s.withEvq t.evq).withStu t.stu

/-- At most the Voice Allocator, the Event Queue and the Status Unit differ. -/
def NotesOnly (s t : State) : Prop := t = ((s.withVal t.val).withEvq t.evq).withStu t.stu

/-- At most the Registration Unit, the Voice Allocator, the Event Queue and the Status Unit differ. -/
def PlayOnly (s t : State) : Prop := t = (((s.withReg t.reg).withVal t.val).withEvq t.evq).withStu t.stu

/-- At most the Expression Unit, the Event Queue and the Status Unit differ. -/
def LevelsOnly (s t : State) : Prop := t = ((s.withExu t.exu).withEvq t.evq).withStu t.stu

/-- At most the Link Controller, the Event Queue and the Status Unit differ. -/
def LinkOnly (s t : State) : Prop := t = ((s.withLnk t.lnk).withEvq t.evq).withStu t.stu

section
variable {s t u : State}

theorem QueueOnly.refl (s : State) : QueueOnly s s := rfl
theorem NoticesOnly.refl (s : State) : NoticesOnly s s := rfl
theorem NotesOnly.refl (s : State) : NotesOnly s s := rfl
theorem PlayOnly.refl (s : State) : PlayOnly s s := rfl
theorem LevelsOnly.refl (s : State) : LevelsOnly s s := rfl
theorem LinkOnly.refl (s : State) : LinkOnly s s := rfl

theorem QueueOnly.trans (h : QueueOnly s t) (k : QueueOnly t u) : QueueOnly s u := by
  rw [QueueOnly] at *; rw [k, h]; rfl

theorem NoticesOnly.trans (h : NoticesOnly s t) (k : NoticesOnly t u) : NoticesOnly s u := by
  rw [NoticesOnly] at *; rw [k, h]; rfl

theorem NotesOnly.trans (h : NotesOnly s t) (k : NotesOnly t u) : NotesOnly s u := by
  rw [NotesOnly] at *; rw [k, h]; rfl

theorem PlayOnly.trans (h : PlayOnly s t) (k : PlayOnly t u) : PlayOnly s u := by
  rw [PlayOnly] at *; rw [k, h]; rfl

theorem LevelsOnly.trans (h : LevelsOnly s t) (k : LevelsOnly t u) : LevelsOnly s u := by
  rw [LevelsOnly] at *; rw [k, h]; rfl

theorem LinkOnly.trans (h : LinkOnly s t) (k : LinkOnly t u) : LinkOnly s u := by
  rw [LinkOnly] at *; rw [k, h]; rfl

theorem QueueOnly.notices (h : QueueOnly s t) : NoticesOnly s t := by
  rw [QueueOnly] at h; rw [NoticesOnly, h]; rfl

theorem NoticesOnly.notes (h : NoticesOnly s t) : NotesOnly s t := by
  rw [NoticesOnly] at h; rw [NotesOnly, h]; rfl

theorem NotesOnly.play (h : NotesOnly s t) : PlayOnly s t := by
  rw [NotesOnly] at h; rw [PlayOnly, h]; rfl

theorem NoticesOnly.levels (h : NoticesOnly s t) : LevelsOnly s t := by
  rw [NoticesOnly] at h; rw [LevelsOnly, h]; rfl

theorem NoticesOnly.link (h : NoticesOnly s t) : LinkOnly s t := by
  rw [NoticesOnly] at h; rw [LinkOnly, h]; rfl

end

/-- A walk whose every step keeps a reflexive, transitive relation keeps it. -/
theorem foldl_keeps {α : Type} {R : State → State → Prop} (refl : ∀ s, R s s)
    (trans : ∀ s t u, R s t → R t u → R s u) {f : State → α → State} (step : ∀ s a, R s (f s a)) (l : List α) (s : State) :
    R s (l.foldl f s) := by
  induction l generalizing s with
  | nil => exact refl s
  | cons a l ih => exact trans _ _ _ (step s a) (ih _)

/-- An operation that keeps a reflexive, transitive relation keeps it however often it is repeated. -/
theorem repeat_keeps {R : State → State → Prop} (refl : ∀ s, R s s) (trans : ∀ s t u, R s t → R t u → R s u)
    {f : State → State} (step : ∀ s, R s (f s)) (n : Nat) (s : State) : R s (Nat.repeat f n s) := by
  induction n with
  | zero => exact refl s
  | succ n ih => exact trans _ _ _ ih (step _)

/-! ## Event Queue and flags -/

theorem pushSection_queueOnly (n : Fin 8) (r : Report) (s : State) : QueueOnly s (pushSection n r s) := rfl

theorem pushGeneral_queueOnly (r : Report) (s : State) : QueueOnly s (pushGeneral r s) := rfl

/-- What offering a general report can do: one entry more if it is admitted, nothing if it is not. -/
theorem offerGeneral_cases (r : Report) (s : State) :
    (s.soundingTotal + 1 ≤ s.freeEntries ∧ offerGeneral r s = pushGeneral r s) ∨
      (s.freeEntries < s.soundingTotal + 1 ∧ offerGeneral r s = s) := by
  by_cases h : s.soundingTotal + 1 ≤ s.freeEntries
  · exact .inl ⟨h, by simp [offerGeneral, State.admitsGeneral, h]⟩
  · exact .inr ⟨by omega, by simp [offerGeneral, State.admitsGeneral, h]⟩

theorem offerGeneral_queueOnly (r : Report) (s : State) : QueueOnly s (offerGeneral r s) := by
  unfold offerGeneral; split
  · exact pushGeneral_queueOnly r s
  · exact .refl s

theorem replaceDynamic_queueOnly (n : Fin 8) (l : Nat) (s : State) : QueueOnly s (replaceDynamic n l s) := rfl

theorem purgeForCut_queueOnly (c : AllOffCause) (s : State) : QueueOnly s (purgeForCut c s) := rfl

theorem purgeForReset_queueOnly (s : State) : QueueOnly s (purgeForReset s) := rfl

theorem raiseFlag_noticesOnly (f : StickyFlag) (s : State) : NoticesOnly s (raiseFlag f s) := by
  unfold raiseFlag; split
  · rfl
  · exact NoticesOnly.trans (t := s.withStu _) rfl (offerGeneral_queueOnly _ _).notices

/-- After an occurrence the flag is set (R185). -/
theorem raiseFlag_sticky (f : StickyFlag) (s : State) :
    (raiseFlag f s).stu = if s.stu.isSet f then s.stu.tally f else (s.stu.tally f).setFlag f := by
  unfold raiseFlag; split
  · rfl
  · have h := offerGeneral_queueOnly (.fault (.sticky f)) (s.withStu ((s.stu.tally f).setFlag f))
    rw [QueueOnly] at h; rw [h]; rfl

/-! ## Expression Unit -/

theorem markReported_levelsOnly (n : Fin 8) (s : State) : LevelsOnly s (markReported n s) := rfl

theorem handDynamic_levelsOnly (n : Fin 8) (s : State) : LevelsOnly s (handDynamic n s) := by
  unfold handDynamic; split
  · exact .trans (replaceDynamic_queueOnly _ _ _).notices.levels (markReported_levelsOnly _ _)
  · split
    · exact .trans (pushSection_queueOnly _ _ _).notices.levels (markReported_levelsOnly _ _)
    · exact .refl s

theorem testDynamic_levelsOnly (n : Fin 8) (s : State) : LevelsOnly s (testDynamic n s) := by
  unfold testDynamic; split
  · exact handDynamic_levelsOnly n s
  · exact .refl s

theorem testDynamics_levelsOnly (s : State) : LevelsOnly s (testDynamics s) :=
  foldl_keeps LevelsOnly.refl (fun _ _ _ => .trans) (fun s n => testDynamic_levelsOnly n s) _ s

theorem reportAllReady_levelsOnly (s : State) : LevelsOnly s (reportAllReady s) :=
  foldl_keeps LevelsOnly.refl (fun _ _ _ => .trans)
    (fun s n => by
      split
      · exact handDynamic_levelsOnly n s
      · exact .refl s) _ s

theorem reportReady_levelsOnly (n : Fin 8) (s : State) : LevelsOnly s (reportReady n s) := by
  unfold reportReady; split
  · exact .refl s
  · exact handDynamic_levelsOnly n s

theorem forceStages_levelsOnly (c : Int) (s : State) : LevelsOnly s (forceStages c s) := by
  unfold forceStages; dsimp only; split
  · exact .trans (raiseFlag_noticesOnly _ _).levels rfl
  · rfl

theorem expressionSample_levelsOnly (c : Option Int) (s : State) : LevelsOnly s (expressionSample c s) := by
  unfold expressionSample
  refine .trans ?_ (testDynamics_levelsOnly _)
  refine LevelsOnly.trans (t := _) ?_ (rfl : LevelsOnly _ (takeLevels _))
  cases c with
  | none => rfl
  | some c => exact .trans (.trans (forceStages_levelsOnly c s) (rfl : LevelsOnly _ (accentCountdown _))) rfl

/-! ## Voice Allocator -/

theorem setVoice_notesOnly (v : Fin 48) (x : Voice) (s : State) : NotesOnly s (setVoice v x s) := rfl

theorem setHeld_notesOnly (h : List HeldKey) (s : State) : NotesOnly s (setHeld h s) := rfl

theorem endVoice_notesOnly (r : NoteOffReason) (v : Fin 48) (s : State) : NotesOnly s (endVoice r v s) := rfl

theorem endOldest_notesOnly (n : Fin 8) (r : NoteOffReason) (s : State) : NotesOnly s (endOldest n r s) := by
  unfold endOldest; split
  · exact endVoice_notesOnly r _ s
  · exact .refl s

theorem makeRoom_notesOnly (n : Fin 8) (s : State) : NotesOnly s (makeRoom n s) := by
  unfold makeRoom; split
  · exact endOldest_notesOnly n _ s
  · exact .refl s

theorem releaseVoice_notesOnly (r : NoteOffReason) (v : Fin 48) (s : State) : NotesOnly s (releaseVoice r v s) := by
  unfold releaseVoice; dsimp only; split
  · rfl
  · rfl

theorem releasePairs_notesOnly (r : NoteOffReason) (ps : List Pair) (s : State) : NotesOnly s (releasePairs r ps s) :=
  foldl_keeps NotesOnly.refl (fun _ _ _ => .trans) (fun s (p : Pair) => releaseVoice_notesOnly r p.voice s) ps s

theorem releaseKeyVoices_notesOnly (r : NoteOffReason) (k : Fin 192) (s : State) : NotesOnly s (releaseKeyVoices r k s) :=
  .trans (rfl : NotesOnly s (changePairs k _ s)) (releasePairs_notesOnly r _ _)

theorem dropAttack_notesOnly (s : State) : NotesOnly s (dropAttack s) := (raiseFlag_noticesOnly _ s).notes

theorem sound_notesOnly (k : Fin 192) (l n : Fin 8) (t : Nat) (c : NoteOnCause) (v : Fin 48) (s : State) :
    NotesOnly s (sound k l n t c v s) := rfl

theorem shareVoice_notesOnly (k : Fin 192) (l : Fin 8) (v : Fin 48) (s : State) : NotesOnly s (shareVoice k l v s) := rfl

theorem retrigger_notesOnly (k : Fin 192) (l n : Fin 8) (t : Nat) (v : Fin 48) (s : State) :
    NotesOnly s (retrigger k l n t v s) := by
  unfold retrigger; split
  · exact .trans (makeRoom_notesOnly n s) (sound_notesOnly _ _ _ _ _ _ _)
  · exact dropAttack_notesOnly s

theorem newVoice_notesOnly (k : Fin 192) (l n : Fin 8) (t : Nat) (c : NoteOnCause) (s : State) :
    NotesOnly s (newVoice k l n t c s) := by
  unfold newVoice; split
  · dsimp only; split
    · exact .trans (makeRoom_notesOnly n s) (sound_notesOnly _ _ _ _ _ _ _)
    · exact .trans (makeRoom_notesOnly n s) (dropAttack_notesOnly _)
  · exact dropAttack_notesOnly s

theorem placePitch_notesOnly (k : Fin 192) (l n : Fin 8) (c : NoteOnCause) (t : Nat) (s : State) :
    NotesOnly s (placePitch k l n c t s) := by
  unfold placePitch
  repeat' split
  all_goals
    first
    | exact .refl s
    | exact dropAttack_notesOnly s
    | exact shareVoice_notesOnly _ _ _ s
    | exact retrigger_notesOnly _ _ _ _ _ s
    | exact newVoice_notesOnly _ _ _ _ _ s

theorem placeLayer_notesOnly (k : Fin 192) (c : KeyClass) (cause : NoteOnCause) (p : Nat) (l : Fin 8) (s : State) :
    NotesOnly s (placeLayer k c cause p l s) := by
  unfold placeLayer; dsimp only
  repeat' split
  all_goals
    first
    | exact .refl s
    | exact placePitch_notesOnly _ _ _ _ _ s

theorem placeAll_notesOnly (k : Fin 192) (c : KeyClass) (cause : NoteOnCause) (p : Nat) (s : State) :
    NotesOnly s (placeAll k c cause p s) :=
  foldl_keeps NotesOnly.refl (fun _ _ _ => .trans) (fun s l => placeLayer_notesOnly k c cause p l s) _ s

theorem attack_notesOnly (k : Fin 192) (d : Side) (cause : NoteOnCause) (s : State) : NotesOnly s (attack k d cause s) :=
  foldl_keeps NotesOnly.refl (fun _ _ _ => .trans) (fun s p => placeAll_notesOnly k _ cause p s) _ s

theorem press_notesOnly (k : Fin 192) (s : State) : NotesOnly s (press k s) := by
  unfold press
  repeat' split
  · exact .refl s
  · exact (raiseFlag_noticesOnly _ s).notes
  · exact .trans (setHeld_notesOnly _ s) (attack_notesOnly _ _ _ _)

theorem release_notesOnly (k : Fin 192) (s : State) : NotesOnly s (release k s) := by
  unfold release; split
  · exact .refl s
  · exact .trans (setHeld_notesOnly _ s) (releasePairs_notesOnly _ _ _)

theorem reattack_notesOnly (r : NoteOffReason) (c : NoteOnCause) (d : Side) (k : Fin 192) (s : State) :
    NotesOnly s (reattack r c d k s) :=
  .trans (.trans (releaseKeyVoices_notesOnly r k s) (attack_notesOnly k d c _)) (setHeld_notesOnly _ _)

theorem revoice_notesOnly (d : Side) (s : State) : NotesOnly s (revoice d s) :=
  foldl_keeps NotesOnly.refl (fun _ _ _ => .trans) (fun s k => reattack_notesOnly _ _ d k s) _ s

theorem stealToLimit_notesOnly (n : Fin 8) (s : State) : NotesOnly s (stealToLimit n s) :=
  repeat_keeps NotesOnly.refl (fun _ _ _ => .trans) (endOldest_notesOnly n _) _ s

theorem endSection_notesOnly (n : Fin 8) (s : State) : NotesOnly s (endSection n s) :=
  .trans (repeat_keeps NotesOnly.refl (fun _ _ _ => .trans) (endOldest_notesOnly n .sectionOff) _ s) rfl

theorem endAllVoices_notesOnly (s : State) : NotesOnly s (endAllVoices s) := rfl

/-! ## Registration Unit and reversal -/

theorem commitLayers_playOnly (p : Fin 16) (c : Condition) (o : Origin) (s : State) : PlayOnly s (commitLayers p c o s) :=
  .trans (t := s.withReg _) rfl (offerGeneral_queueOnly _ _).notices.notes.play

theorem commit_playOnly (p : Fin 16) (c : Condition) (o : Origin) (s : State) : PlayOnly s (commit p c o s) := by
  unfold commit; dsimp only; split
  · exact .trans (commitLayers_playOnly p c o s) (revoice_notesOnly _ _).play
  · exact commitLayers_playOnly p c o s

theorem select_playOnly (p : Fin 16) (c : Condition) (o : Origin) (s : State) : PlayOnly s (select p c o s) := by
  unfold select; split
  · exact commit_playOnly _ _ _ s
  · rfl

theorem pressSwitch_playOnly (k : Fin 192) (s : State) : PlayOnly s (pressSwitch k s) := by
  unfold pressSwitch; split
  · exact .refl s
  · exact select_playOnly _ _ _ s

theorem takeBeat_playOnly (b : Bool) (s : State) : PlayOnly s (takeBeat b s) := by
  unfold takeBeat
  repeat' split
  · exact commit_playOnly _ _ _ s
  · exact .refl s
  · exact .refl s

theorem rearticulate_notesOnly (p : Pair) (s : State) : NotesOnly s (rearticulate p s) := rfl

theorem carryPair_notesOnly (start : Nat) (p : Pair) (s : State) : NotesOnly s (carryPair start p s) := by
  unfold carryPair
  repeat' split
  · exact rearticulate_notesOnly p s
  · exact dropAttack_notesOnly s
  · exact .refl s

theorem carryKey_notesOnly (start : Nat) (d : Side) (k : Fin 192) (s : State) :
    NotesOnly s (carryKey start d k s) := by
  unfold carryKey
  repeat' split
  · exact .refl s
  · exact .trans (foldl_keeps NotesOnly.refl (fun _ _ _ => .trans) (fun s p => carryPair_notesOnly start p s) _ s)
      (setHeld_notesOnly _ _)
  · exact reattack_notesOnly _ _ d k s

theorem carryAll_notesOnly (d : Side) (s : State) : NotesOnly s (carryAll d s) :=
  foldl_keeps NotesOnly.refl (fun _ _ _ => .trans) (fun t k => carryKey_notesOnly s.evq.made d k t) _ s

theorem takeReversal_playOnly (d : Side) (s : State) : PlayOnly s (takeReversal d s) := by
  unfold takeReversal; dsimp only
  repeat' split
  · exact .trans (commitLayers_playOnly _ _ _ s) (revoice_notesOnly _ _).play
  · exact .trans (commitLayers_playOnly _ _ _ s) (carryAll_notesOnly _ _).play
  · exact (carryAll_notesOnly _ s).play
  · exact (carryAll_notesOnly _ s).play

theorem handReversal_playOnly (d : Side) (s : State) : PlayOnly s (handReversal d s) :=
  .trans (offerGeneral_queueOnly _ s).notices.notes.play (takeReversal_playOnly d _)

/-! ## Key Scanner and clock -/

theorem routePress_playOnly (k : Fin 192) (s : State) : PlayOnly s (routePress k s) := by
  unfold routePress; split
  · exact (press_notesOnly k s).play
  · exact (press_notesOnly k s).play
  · exact (press_notesOnly k s).play
  · exact pressSwitch_playOnly k s
  · exact .refl s

theorem routeEvent_playOnly (e : KeyEvent) (s : State) : PlayOnly s (routeEvent s e) := by
  unfold routeEvent routeRelease
  repeat' split
  · exact routePress_playOnly _ s
  · exact (release_notesOnly _ s).play
  · exact .refl s

theorem routeEvents_playOnly (es : List KeyEvent) (s : State) : PlayOnly s (es.foldl routeEvent s) :=
  foldl_keeps PlayOnly.refl (fun _ _ _ => .trans) (fun s e => routeEvent_playOnly e s) es s

theorem reportPhase_queueOnly (p : ClockPhase) (s : State) : QueueOnly s (reportPhase p s) := by
  unfold reportPhase; split
  · exact .refl s
  · exact offerGeneral_queueOnly _ s

/-- A beat event leaves the clock as its own changes make it, and else at most the blocks of a commit. -/
theorem beatEvent_playOnly (p : ClockPhase) (c : Clock) (s : State) :
    PlayOnly (s.withTck (c.beat p)) (beatEvent p c s) :=
  .trans (reportPhase_queueOnly p _).notices.notes.play (takeBeat_playOnly _ _)

/-! ## Link Controller -/

theorem setReceiver_linkOnly (r : Receiver) (s : State) : LinkOnly s (setReceiver r s) := rfl

theorem disposeFrame_linkOnly (f : Frame) (s : State) : LinkOnly s (disposeFrame f s) := by
  unfold disposeFrame
  repeat' split
  · exact .refl s
  · exact (raiseFlag_noticesOnly _ s).link
  · rfl

theorem hunt_linkOnly (n : Nat) (bs : List Byte) (s : State) : LinkOnly s (hunt n bs s) := by
  induction n generalizing bs s with
  | zero => rfl
  | succ n ih =>
    cases bs with
    | nil => rfl
    | cons b bs =>
      unfold hunt; dsimp only
      repeat' split
      · exact ih bs s
      · rfl
      · exact .trans (raiseFlag_noticesOnly _ s).link (ih _ _)
      · rfl
      · exact .trans (disposeFrame_linkOnly _ s) (ih _ _)
      · exact .trans (raiseFlag_noticesOnly _ s).link (ih _ _)

theorem abandon_linkOnly (f : StickyFlag) (held : List Byte) (s : State) : LinkOnly s (abandon f held s) :=
  .trans (raiseFlag_noticesOnly f s).link (hunt_linkOnly _ _ _)

theorem completeFrame_linkOnly (s : State) : LinkOnly s (completeFrame s) := by
  unfold completeFrame
  repeat' split
  · exact .refl s
  · exact .trans (disposeFrame_linkOnly _ s) (setReceiver_linkOnly _ _)
  · exact abandon_linkOnly _ _ s
  · exact .refl s

theorem takeByte_linkOnly (b : Byte) (l : Bool) (s : State) : LinkOnly s (takeByte b l s) := by
  unfold takeByte; dsimp only
  repeat' split
  all_goals
    first
    | exact .refl s
    | rfl
    | exact abandon_linkOnly _ _ s

end Sys2Proof.Machine
end

