-- ==== Sys2Proof/Laws/Requests.lean ====
section
/-! SUPPORT. What taking a request can do, said once: the frame that is offered is served or refused for its length, and a command
whose request is not the next one to take does nothing (R173, R174, R175). -/

namespace Sys2Proof.Machine

theorem nextRequest_of_offers {s : State} {kind tag : Byte} {p : List Byte} {rest : List Frame}
    (h : s.offers kind tag p rest) : s.nextRequest = some { kind := kind, tag := tag, payload := p } := by
  simp [State.nextRequest, h.2.1, h.2.2]

theorem dropRequest_of_offers {s : State} {kind tag : Byte} {p : List Byte} {rest : List Frame}
    (h : s.offers kind tag p rest) : dropRequest s = { s with lnk := { s.lnk with inbound := rest } } := by
  simp [dropRequest, State.withLnk, h.2.2]

/-- A wanted frame that is offered is carried out. -/
theorem takeRequest_of_offers {s : State} {kind tag : Byte} {p : List Byte} {rest : List Frame}
    {wanted : Byte → Bool} {carryOut : Frame → State → State} (h : s.offers kind tag p rest)
    (hw : wanted kind = true) :
    takeRequest wanted carryOut s =
      .next (carryOut { kind := kind, tag := tag, payload := p } { s with lnk := { s.lnk with inbound := rest } }) := by
  rw [takeRequest, whileRunning_of_running h.1, takeWaiting, nextRequest_of_offers h, dropRequest_of_offers h]
  simp [hw]

/-- A request of the right length goes to its owner. -/
theorem serve_of_offers {s : State} {kind tag : Byte} {p : List Byte} {rest : List Frame} {len : Nat}
    {owner : List Byte → State → Answer} (h : s.offers kind tag p rest) (hl : p.length = len) :
    serve kind len owner s =
      .next (reply { kind := kind, tag := tag, payload := p } (owner p { s with lnk := { s.lnk with inbound := rest } })) := by
  rw [serve, takeRequest_of_offers h (by simp)]
  simp [hl]

/-- A request of another length is refused for it. -/
theorem serve_of_wrong_length {s : State} {kind tag : Byte} {p : List Byte} {rest : List Frame} {len : Nat}
    {owner : List Byte → State → Answer} (h : s.offers kind tag p rest) (hl : p.length ≠ len) :
    serve kind len owner s =
      .next (reply { kind := kind, tag := tag, payload := p }
        { state := { s with lnk := { s.lnk with inbound := rest } }, status := .refusedLength, data := [] }) := by
  rw [serve, takeRequest_of_offers h (by simp)]
  simp [hl]

/-- Everything a taken request can do: nothing at all, or the frame at the front is one of the wanted kinds and is carried out. -/
theorem takeRequest_cases {wanted : Byte → Bool} {carryOut : Frame → State → State} {s t : State}
    (h : takeRequest wanted carryOut s = .next t) :
    t = s ∨ ∃ f rest, s.offers f.kind f.tag f.payload rest ∧ wanted f.kind = true ∧
      t = carryOut f { s with lnk := { s.lnk with inbound := rest } } := by
  rw [takeRequest, whileRunning_eq_next] at h
  split at h
  · rename_i hr
    unfold takeWaiting State.nextRequest at h
    split at h
    · rename_i f heq
      split at heq
      · rename_i rest hh hi
        cases heq
        split at h
        · exact .inr ⟨f, rest, ⟨hr, hh, hi⟩, ‹_›, by simp [h, dropRequest, State.withLnk, hi]⟩
        · exact .inl h
      · cases heq
    · exact .inl h
  · exact .inl h

/-- Everything a served request can do: nothing, a refusal for its length, or the owner's answer. -/
theorem serve_cases {kind : Byte} {len : Nat} {owner : List Byte → State → Answer} {s t : State}
    (h : serve kind len owner s = .next t) :
    t = s ∨ ∃ tag p rest, s.offers kind tag p rest ∧
      ((p.length = len ∧
          t = reply { kind := kind, tag := tag, payload := p } (owner p { s with lnk := { s.lnk with inbound := rest } })) ∨
        (p.length ≠ len ∧
          t = reply { kind := kind, tag := tag, payload := p }
            { state := { s with lnk := { s.lnk with inbound := rest } }, status := .refusedLength, data := [] })) := by
  rcases takeRequest_cases h with rfl | ⟨⟨k, tag, p⟩, rest, ho, hw, rfl⟩
  · exact .inl rfl
  · have hk : k = kind := by simpa using hw
    subst hk
    refine .inr ⟨tag, p, rest, ho, ?_⟩
    by_cases hl : p.length = len
    · exact .inl ⟨hl, by simp [hl]⟩
    · exact .inr ⟨hl, by simp [hl]⟩

end Sys2Proof.Machine
end

