-- ==== Sys2Proof/Laws/Events.lean ====
section
/-! SUPPORT. What the part's own events can do, said once: a line's sample and its edge (R56, R90), a scan boundary and a recorded
setting (R11), the key events of a scan with a WriteKeys among them (R75), and the passing of a tick (R149, R158). -/

namespace Sys2Proof.Machine

/-! ## Line filters -/

theorem LineFilter.wants_iff {now : Tick} {f : LineFilter} : f.wants now = true ↔ f.sampledAt ≠ some now := by
  simp [LineFilter.wants]

/-- The first sample of a tick is the one the filter takes. -/
theorem LineFilter.sample_of_wants {need : Nat} {now : Tick} {level : Bool} {f : LineFilter} (h : f.sampledAt ≠ some now) :
    f.sample need now level = { f.take need level with sampledAt := some now } := by
  simp [LineFilter.sample, LineFilter.wants, h]

/-- A second sample at the same tick is none. -/
theorem LineFilter.sample_of_sampled {need : Nat} {now : Tick} {level : Bool} {f : LineFilter} (h : f.sampledAt = some now) :
    f.sample need now level = f := by
  simp [LineFilter.sample, LineFilter.wants, h]

/-- After a sample the line has had its sample of the tick, whatever it was. -/
@[simp] theorem LineFilter.sample_sampledAt (need : Nat) (now : Tick) (level : Bool) (f : LineFilter) :
    (f.sample need now level).sampledAt = some now := by
  by_cases h : f.sampledAt = some now
  · rw [sample_of_sampled h, h]
  · rw [sample_of_wants h]

/-- Samples at one tick count once. -/
@[simp] theorem LineFilter.sample_sample (need : Nat) (now : Tick) (a b : Bool) (f : LineFilter) :
    (f.sample need now a).sample need now b = f.sample need now a :=
  sample_of_sampled (sample_sampledAt ..)

/-- Everything that taking an edge can do: take the one a sample has accepted, take the one this tick's high sample accepts, or
nothing. -/
theorem LineFilter.takeEdge_eq_some {need : Nat} {now : Tick} {f g : LineFilter} :
    f.takeEdge need now = some g ↔
      (f.accepted = true ∧ g = { f with accepted := false }) ∨
        (f.accepted = false ∧ f.sampledAt ≠ some now ∧ f.armed = true ∧ f.high = need ∧
          g = { armed := false, high := 0, accepted := false, sampledAt := some now }) := by
  unfold LineFilter.takeEdge
  constructor
  · intro h
    split at h
    · exact .inl ⟨‹_›, by simpa using h.symm⟩
    · split at h
      · simp_all [LineFilter.wants]
      · cases h
  · rintro (⟨ha, rfl⟩ | ⟨ha, hs, hr, hh, rfl⟩)
    · simp [ha]
    · simp [ha, LineFilter.wants, hs, hr, hh]

/-- The second way of taking an edge is the first one after this tick's high sample. -/
theorem LineFilter.takeEdge_sample {need : Nat} {now : Tick} {f : LineFilter} (ha : f.accepted = false)
    (hs : f.sampledAt ≠ some now) (hr : f.armed = true) (hh : f.high = need) :
    (f.sample need now true).takeEdge need now = f.takeEdge need now := by
  rw [sample_of_wants hs]
  simp [LineFilter.take, LineFilter.takeEdge, LineFilter.wants, ha, hs, hr, hh]

/-! ## Scan boundaries -/

/-- Everything a boundary can do: put differing settings in force, or nothing. -/
theorem Scanner.meetBoundary_cases (k : Scanner) :
    (k.boundaryDue = true ∧ k.meetBoundary = k.applySettings) ∨ (k.boundaryDue = false ∧ k.meetBoundary = k) := by
  cases h : k.boundaryDue <;> simp [Scanner.meetBoundary, h]

/-- A boundary that has been met is due no longer. -/
@[simp] theorem Scanner.meetBoundary_boundaryDue (k : Scanner) : k.meetBoundary.boundaryDue = false := by
  rcases k.meetBoundary_cases with ⟨_, h⟩ | ⟨h, h'⟩
  · simp [h, Scanner.applySettings, Scanner.boundaryDue]
  · rw [h', h]

@[simp] theorem Scanner.meetBoundary_scanning (k : Scanner) : k.meetBoundary.scanning = k.scanning := by
  unfold Scanner.meetBoundary; split <;> rfl

@[simp] theorem Scanner.meetBoundary_recPeriod (k : Scanner) : k.meetBoundary.recPeriod = k.recPeriod := by
  unfold Scanner.meetBoundary; split <;> rfl

@[simp] theorem Scanner.meetBoundary_recAgreement (k : Scanner) : k.meetBoundary.recAgreement = k.recAgreement := by
  unfold Scanner.meetBoundary; split <;> rfl

/-- With a scan in progress a setting is only recorded. -/
theorem Scanner.record_of_scanning {k : Scanner} {period n : Nat} (h : k.scanning = true) :
    k.record period n = { k with recPeriod := period, recAgreement := n } := by
  simp [Scanner.record, Scanner.meetBoundary, Scanner.boundaryDue, h]

/-- With no scan in progress a recorded setting is in force at once. -/
theorem Scanner.record_of_idle {k : Scanner} {period n : Nat} (h : k.scanning = false) :
    (k.record period n).period = period ∧ (k.record period n).agreement = n := by
  unfold Scanner.record
  rcases Scanner.meetBoundary_cases { k.meetBoundary with recPeriod := period, recAgreement := n } with ⟨_, e⟩ | ⟨hd, e⟩
  · rw [e]; exact ⟨rfl, rfl⟩
  · rw [e]
    have : period = k.meetBoundary.period ∧ n = k.meetBoundary.agreement := by
      simpa [Scanner.boundaryDue, h] using hd
    exact ⟨this.1.symm, this.2.symm⟩

/-! ## Key events -/

@[simp] theorem routeEvents_none (es : List KeyEvent) (s : State) : routeEvents none es s = es.foldl routeEvent s := rfl

@[simp] theorem routeEvents_nil_none (s : State) : routeEvents none [] s = s := rfl

/-- A WriteKeys that is offered is taken and carried out. -/
theorem takeWriteKeys_of_offers {s : State} {tag : Byte} {p : List Byte} {rest : List Frame} (h : s.offers 0x06 tag p rest) :
    takeWriteKeys s =
      serveWriteKeys { kind := 0x06, tag := tag, payload := p } { s with lnk := { s.lnk with inbound := rest } } := by
  rw [takeWriteKeys, takeWaiting, nextRequest_of_offers h, dropRequest_of_offers h]
  simp

/-! ## Due events -/

@[simp] theorem mem_dueWhen {b : Bool} {i j : Instr} : i ∈ dueWhen b j ↔ b = true ∧ i = j := by
  cases b <;> simp [dueWhen]

/-- Held bytes make a complete frame when they are 5 + LEN (R170). -/
theorem frameIsComplete_iff {held : List Byte} : frameIsComplete held = true ↔ completeBytes held := by
  simp [frameIsComplete, byteAt]

theorem Entry.isAllOff_iff {e : Entry} : e.isAllOff = true ↔ ∃ c, e.report = .allOff c := by
  unfold Entry.isAllOff; cases e.report <;> simp

/-- The one request that is due is that of the oldest frame, for an IDLE handler (R173). -/
theorem mem_requestDue {s : State} {i : Instr} :
    i ∈ s.requestDue ↔
      ∃ f rest, s.lnk.handler = .idle ∧ s.lnk.inbound = f :: rest ∧ i = requestCommand f.kind := by
  unfold State.requestDue State.nextRequest
  cases hh : s.lnk.handler <;> cases hc : s.lnk.inbound <;> simp

/-- Which command takes a request KIND that R182 does not assign. -/
theorem requestCommand_unknown : ∀ k : Byte, requestCommand k = .unknownRequest ↔ k.toNat = 0 ∨ 0x14 < k.toNat := by decide

/-! ## Ticks -/

@[simp] theorem EventQueue.atTick_entries (now : Tick) (q : EventQueue) : (q.atTick now).entries = q.entries := rfl

@[simp] theorem EventQueue.atTick_lastDue (now : Tick) (q : EventQueue) : (q.atTick now).lastDue = q.lastDue := rfl

@[simp] theorem EventQueue.atTick_made (now : Tick) (q : EventQueue) : (q.atTick now).made = q.made := rfl

/-- A last-due is ahead at a tick if it was ahead before and has not come. -/
@[simp] theorem EventQueue.atTick_ahead (now : Tick) (q : EventQueue) (n : Fin 8) :
    (q.atTick now).ahead[n] = (q.ahead[n] && !hasCome now q.lastDue[n]) := by
  simp [EventQueue.atTick]

/-- Everything the passing of a tick can do: the tick counts on and last-dues come, or nothing. -/
theorem passTick_cases (s : State) :
    (s.inReset = none ∧ s.awaitsWorld = false ∧
        passTick s = { s with tick := s.tick + 1, evq := s.evq.atTick (s.tick + 1) }) ∨
      ((s.inReset ≠ none ∨ s.awaitsWorld = true) ∧ passTick s = s) := by
  unfold passTick
  cases h : s.inReset <;> cases hw : s.awaitsWorld <;> simp [h]

/-- The event that is picked is one of those due. -/
theorem pickDue_mem {s : State} {i : Instr} (h : s.pickDue = some i) : i ∈ s.dueEvents := by
  unfold State.pickDue at h
  split at h
  · cases h
  · rename_i hd; cases h; simp [hd]
  · rename_i j rest hne hd
    cases h
    rw [hd, List.getD_eq_getElem _ _ (Nat.mod_lt _ (by simp))]
    exact List.getElem_mem _

/-- No event is picked only when none is due. -/
theorem pickDue_eq_none {s : State} : s.pickDue = none ↔ s.dueEvents = [] := by
  unfold State.pickDue
  split <;> simp_all

end Sys2Proof.Machine
end

