-- ==== Sys2Proof/Laws/Queue.lean ====
section
/-! SUPPORT. What placing an entry in the Event Queue does, said once (R148 to R151, R154), and what a flag's occurrence can do
(R185, R186). -/

namespace Sys2Proof.Machine

/-! ## Placing an entry -/

@[simp] theorem mem_insertEntry {x e : Entry} {l : List Entry} : x ∈ insertEntry e l ↔ x = e ∨ x ∈ l := by
  induction l with
  | nil => simp [insertEntry]
  | cons y ys ih => unfold insertEntry; split <;> simp [ih, or_left_comm]

@[simp] theorem length_insertEntry (e : Entry) (l : List Entry) : (insertEntry e l).length = l.length + 1 := by
  induction l with
  | nil => rfl
  | cons y ys ih => unfold insertEntry; split <;> simp [ih]

theorem countP_insertEntry (p : Entry → Bool) (e : Entry) (l : List Entry) :
    (insertEntry e l).countP p = l.countP p + if p e then 1 else 0 := by
  induction l with
  | nil => simp [insertEntry, List.countP_cons]
  | cons y ys ih =>
    unfold insertEntry; split
    · simp only [List.countP_cons, ih]; omega
    · simp only [List.countP_cons]

/-- An entry joins the queue whole: nothing that waits is lost. -/
theorem insertEntry_perm (e : Entry) (l : List Entry) : (insertEntry e l).Perm (e :: l) := by
  induction l with
  | nil => exact .refl _
  | cons y ys ih =>
    unfold insertEntry; split
    · exact (ih.cons y).trans (.swap e y ys)
    · exact .refl _

/-- Where a new entry goes: behind the leading entries that are an AllOff or due no later (R148). -/
theorem insertEntry_eq (e : Entry) (l : List Entry) :
    insertEntry e l =
      l.takeWhile (fun x => x.isAllOff || hasCome e.due x.due) ++ e :: l.dropWhile (fun x => x.isAllOff || hasCome e.due x.due) := by
  induction l with
  | nil => rfl
  | cons y ys ih =>
    unfold insertEntry
    cases h : (y.isAllOff || hasCome e.due y.due) <;> simp [h, ih]

/-- The due tick of a section report (R149): the last-due where that has not come and is later, else the earliest. -/
theorem dueTick_cases (n : Fin 8) (s : State) :
    let earliest := s.tick + BitVec.ofNat 32 s.scn.records[n].alignment
    (s.evq.ahead[n] = true ∧ 0 < wrapDiff s.evq.lastDue[n] earliest ∧ s.dueTick n = s.evq.lastDue[n]) ∨
      ((s.evq.ahead[n] = false ∨ wrapDiff s.evq.lastDue[n] earliest ≤ 0) ∧ s.dueTick n = earliest) := by
  intro earliest
  unfold State.dueTick
  by_cases ha : s.evq.ahead[n] = true <;> by_cases hw : 0 < wrapDiff s.evq.lastDue[n] earliest <;>
    simp [ha, earliest] <;> simp_all [earliest]

@[simp] theorem pushSection_made (n : Fin 8) (r : Report) (s : State) :
    (pushSection n r s).evq.made = s.evq.made + 1 := rfl

@[simp] theorem pushSection_lastDue (n : Fin 8) (r : Report) (s : State) :
    (pushSection n r s).evq.lastDue = s.evq.lastDue.set n (s.dueTick n) := rfl

@[simp] theorem pushSection_ahead (n : Fin 8) (r : Report) (s : State) :
    (pushSection n r s).evq.ahead = s.evq.ahead.set n (s.dueTick n != s.tick) := rfl

@[simp] theorem pushGeneral_made (r : Report) (s : State) : (pushGeneral r s).evq.made = s.evq.made + 1 := rfl

@[simp] theorem pushGeneral_lastDue (r : Report) (s : State) : (pushGeneral r s).evq.lastDue = s.evq.lastDue := rfl

@[simp] theorem pushGeneral_ahead (r : Report) (s : State) : (pushGeneral r s).evq.ahead = s.evq.ahead := rfl

@[simp] theorem pushSection_fill (n : Fin 8) (r : Report) (s : State) : (pushSection n r s).fill = s.fill + 1 := by
  simp [pushSection, State.fill]

@[simp] theorem pushGeneral_fill (r : Report) (s : State) : (pushGeneral r s).fill = s.fill + 1 := by
  simp [pushGeneral, State.fill]

theorem mem_pushSection {x : Entry} {n : Fin 8} {r : Report} {s : State} :
    x ∈ (pushSection n r s).evq.entries ↔
      x = { report := r, due := s.dueTick n, order := s.evq.made } ∨ x ∈ s.evq.entries := by
  simp [pushSection]

theorem mem_pushGeneral {x : Entry} {r : Report} {s : State} :
    x ∈ (pushGeneral r s).evq.entries ↔ x = { report := r, due := s.tick, order := s.evq.made } ∨ x ∈ s.evq.entries := by
  simp [pushGeneral]

@[simp] theorem replaceDynamic_fill (n : Fin 8) (level : Nat) (s : State) : (replaceDynamic n level s).fill = s.fill := by
  simp [replaceDynamic, State.fill]

/-! ## Occurrences -/

/-- Everything an occurrence can do: count it on a set flag, or count it, set the flag and hand one Fault report on. -/
theorem raiseFlag_cases (f : StickyFlag) (s : State) :
    (s.stu.isSet f = true ∧ raiseFlag f s = s.withStu (s.stu.tally f)) ∨
      (s.stu.isSet f = false ∧
        raiseFlag f s = offerGeneral (.fault (.sticky f)) (s.withStu ((s.stu.tally f).setFlag f))) := by
  unfold raiseFlag
  cases h : s.stu.isSet f <;> simp

end Sys2Proof.Machine
end

