-- ==== Sys2Proof/Laws/Voices.lean ====
section
/-! SUPPORT. What the searches of the voice table answer, and what the small updates of the two tables do, said once
(R118 to R121, R126, R128). -/

namespace Sys2Proof.Machine

/-! ## Searches -/

theorem lookup_some {n : Fin 8} {pitch : Nat} {s : State} {v : Fin 48} (h : s.lookup n pitch = some v) :
    s.val.voices[v].isFree = false ∧ s.val.voices[v].sect = n ∧ s.val.voices[v].pitch = pitch := by
  have := List.find?_some h
  simpa [and_assoc] using this

theorem lookup_none {n : Fin 8} {pitch : Nat} {s : State} :
    s.lookup n pitch = none ↔
      ∀ v : Fin 48, s.val.voices[v].isFree = false → s.val.voices[v].sect = n → s.val.voices[v].pitch ≠ pitch := by
  simp [State.lookup, List.find?_eq_none]

theorem lowestFree_some {s : State} {v : Fin 48} (h : s.lowestFree = some v) : s.val.voices[v].isFree = true := by
  have := List.find?_some h
  simpa using this

theorem lowestFree_none {s : State} : s.lowestFree = none ↔ ∀ v : Fin 48, s.val.voices[v].isFree = false := by
  simp [State.lowestFree, List.find?_eq_none]

/-- One fold of the search for the oldest. -/
def oldestAmong (passes : Voice → Bool) (s : State) (best : Option (Fin 48)) (l : List (Fin 48)) : Option (Fin 48) :=
  l.foldl
    (fun best i =>
      if passes s.val.voices[i] then
        match best with
        | none => some i
        | some j => if s.isOlder i j then some i else some j
      else best)
    best

theorem isOlder_le {s : State} {i j : Fin 48} (h : s.isOlder i j = true) :
    s.val.voices[i].serial ≤ s.val.voices[j].serial := by
  simp only [State.isOlder, Bool.or_eq_true, Bool.and_eq_true, decide_eq_true_eq, beq_iff_eq] at h
  rcases h with h | ⟨h, _⟩
  · exact BitVec.le_of_lt h
  · exact h ▸ BitVec.le_refl _

theorem le_of_not_isOlder {s : State} {i j : Fin 48} (h : s.isOlder i j = false) :
    s.val.voices[j].serial ≤ s.val.voices[i].serial := by
  simp only [State.isOlder, Bool.or_eq_false_iff, decide_eq_false_iff_not] at h
  exact BitVec.not_lt.mp h.1

/-- The fold keeps a voice that passes and that none before it is older than. -/
theorem oldestAmong_spec (passes : Voice → Bool) (s : State) (l : List (Fin 48)) (best : Option (Fin 48))
    (hb : ∀ j, best = some j → passes s.val.voices[j] = true) :
    (∀ v, oldestAmong passes s best l = some v →
      passes s.val.voices[v] = true ∧
        ∀ w, (best = some w ∨ (w ∈ l ∧ passes s.val.voices[w] = true)) →
          s.val.voices[v].serial ≤ s.val.voices[w].serial) ∧
      (oldestAmong passes s best l = none → best = none ∧ ∀ w ∈ l, passes s.val.voices[w] = false) := by
  induction l generalizing best with
  | nil =>
    refine ⟨fun v hv => ⟨hb v hv, ?_⟩, fun h => ⟨h, by simp⟩⟩
    rintro w (hw | hw)
    · have : some v = some w := hv ▸ hw
      cases this; exact BitVec.le_refl _
    · simp at hw
  | cons i is ih =>
    unfold oldestAmong
    simp only [List.foldl_cons]
    by_cases hi : passes s.val.voices[i] = true
    · simp only [hi, if_true]
      cases best with
      | none =>
        obtain ⟨h1, h2⟩ := ih (some i) (by rintro j ⟨⟩; exact hi)
        refine ⟨fun v hv => ⟨(h1 v hv).1, ?_⟩, fun h => absurd (h2 h).1 (by simp)⟩
        rintro w (hw | ⟨hw, hp⟩)
        · cases hw
        · rcases List.mem_cons.mp hw with rfl | hw
          · exact (h1 v hv).2 _ (.inl rfl)
          · exact (h1 v hv).2 _ (.inr ⟨hw, hp⟩)
      | some j =>
        cases ho : s.isOlder i j
        · simp only [ho, Bool.false_eq_true, if_false]
          obtain ⟨h1, h2⟩ := ih (some j) hb
          refine ⟨fun v hv => ⟨(h1 v hv).1, ?_⟩, fun h => absurd (h2 h).1 (by simp)⟩
          rintro w (hw | ⟨hw, hp⟩)
          · exact (h1 v hv).2 _ (.inl hw)
          · rcases List.mem_cons.mp hw with rfl | hw
            · exact BitVec.le_trans ((h1 v hv).2 _ (.inl rfl)) (le_of_not_isOlder ho)
            · exact (h1 v hv).2 _ (.inr ⟨hw, hp⟩)
        · simp only [ho, if_true]
          obtain ⟨h1, h2⟩ := ih (some i) (by rintro k ⟨⟩; exact hi)
          refine ⟨fun v hv => ⟨(h1 v hv).1, ?_⟩, fun h => absurd (h2 h).1 (by simp)⟩
          rintro w (hw | ⟨hw, hp⟩)
          · cases hw
            exact BitVec.le_trans ((h1 v hv).2 _ (.inl rfl)) (isOlder_le ho)
          · rcases List.mem_cons.mp hw with rfl | hw
            · exact (h1 v hv).2 _ (.inl rfl)
            · exact (h1 v hv).2 _ (.inr ⟨hw, hp⟩)
    · have hi' : passes s.val.voices[i] = false := by simpa using hi
      simp only [hi', Bool.false_eq_true, if_false]
      obtain ⟨h1, h2⟩ := ih best hb
      refine ⟨fun v hv => ⟨(h1 v hv).1, ?_⟩, fun h => ⟨(h2 h).1, ?_⟩⟩
      · rintro w (hw | ⟨hw, hp⟩)
        · exact (h1 v hv).2 _ (.inl hw)
        · rcases List.mem_cons.mp hw with rfl | hw
          · exact absurd hp hi
          · exact (h1 v hv).2 _ (.inr ⟨hw, hp⟩)
      · intro w hw
        rcases List.mem_cons.mp hw with rfl | hw
        · exact hi'
        · exact (h2 h).2 w hw

/-- The oldest of the voices that pass a test passes it, and no voice that passes has a smaller serial (R119). -/
theorem oldest_some {passes : Voice → Bool} {s : State} {v : Fin 48} (h : s.oldest passes = some v) :
    passes s.val.voices[v] = true ∧
      ∀ w : Fin 48, passes s.val.voices[w] = true → s.val.voices[v].serial ≤ s.val.voices[w].serial := by
  obtain ⟨h1, _⟩ := oldestAmong_spec passes s (List.finRange 48) none (by simp)
  exact ⟨(h1 v h).1, fun w hw => (h1 v h).2 w (.inr ⟨List.mem_finRange w, hw⟩)⟩

/-- There is no oldest voice exactly when no voice passes. -/
theorem oldest_none {passes : Voice → Bool} {s : State} :
    s.oldest passes = none → ∀ w : Fin 48, passes s.val.voices[w] = false := by
  intro h w
  obtain ⟨_, h2⟩ := oldestAmong_spec passes s (List.finRange 48) none (by simp)
  exact (h2 h).2 w (List.mem_finRange w)

/-! ## Small updates -/

@[simp] theorem setVoice_held (v : Fin 48) (x : Voice) (s : State) : (setVoice v x s).val.held = s.val.held := rfl

@[simp] theorem setVoice_serial (v : Fin 48) (x : Voice) (s : State) : (setVoice v x s).val.serial = s.val.serial := rfl

@[simp] theorem setVoice_evq (v : Fin 48) (x : Voice) (s : State) : (setVoice v x s).evq = s.evq := rfl

/-- A voice entry replaced: that entry alone. -/
theorem setVoice_get (v w : Fin 48) (x : Voice) (s : State) :
    (setVoice v x s).val.voices[w] = if v = w then x else s.val.voices[w] := by
  simp [setVoice, Vector.getElem_set, Fin.ext_iff]

@[simp] theorem setHeld_voices (h : List HeldKey) (s : State) : (setHeld h s).val.voices = s.val.voices := rfl

@[simp] theorem setHeld_serial (h : List HeldKey) (s : State) : (setHeld h s).val.serial = s.val.serial := rfl

@[simp] theorem setHeld_evq (h : List HeldKey) (s : State) : (setHeld h s).evq = s.evq := rfl

@[simp] theorem setHeld_held (h : List HeldKey) (s : State) : (setHeld h s).val.held = h := rfl

/-- A new held-key entry joins the table whole. -/
@[simp] theorem mem_insertHeld {x h : HeldKey} {l : List HeldKey} : x ∈ insertHeld h l ↔ x = h ∨ x ∈ l := by
  induction l with
  | nil => simp [insertHeld]
  | cons y ys ih => unfold insertHeld; split <;> simp [ih, or_left_comm]

@[simp] theorem length_insertHeld (h : HeldKey) (l : List HeldKey) : (insertHeld h l).length = l.length + 1 := by
  induction l with
  | nil => rfl
  | cons y ys ih => unfold insertHeld; split <;> simp [ih]

end Sys2Proof.Machine
end

