-- ==== Sys2Proof/WellFormed.lean ====
section
/-! DEFINITION. Which commands name something the part has: eight sections (R80) and 48 voices (R118).
Every other operand is legal at every value of its type. -/

namespace Sys2Proof

/-- A command is well formed when the section or voice it names exists. -/
def Instr.wellFormed : Instr → Bool
  | .settleExpiry n => decide (n < 8)
  | .releaseExpiry v => decide (v < 48)
  | .hardReset _ | .resetRelease _ _ _ | .scanStart | .scanCompletion _ | .scanBoundary
  | .reinitialisationWindowEnd | .sample _ | .calibrationEnd | .beatEdge | .barEdge | .lastRealBeatAbsent
  | .deadline | .cutEdge | .byteArrival _ _ | .gap | .frameComplete | .unknownRequest | .setScan | .setBellows
  | .calibrate | .setExpression | .setClock | .writeKeys | .readKeys | .writeSection | .readSection
  | .sectionReady | .cutRequest | .resume | .selectPreset | .cancelPending | .writeLayer | .readLayer
  | .setPresetFlags | .status | .clearFlags | .reset | .transmit | .frameSent | .cutLineSample _
  | .clickLineSample _ _ => true

end Sys2Proof
end

