-- ==== Sys2Proof/Tests/Slice0.lean ====
section
/-! SUPPORT. Small tests, each on one command: the ill-formed commands, the spec's worked examples (named in each docstring), and one
witness for every statement that has hypotheses. -/

set_option Elab.async false

namespace Sys2Proof.Tests

open Sys2Proof.Machine

/-! ## Ill-formed commands -/

theorem test_section_eight_is_ill_formed : Instr.wellFormed (.settleExpiry 8) = false := by decide

theorem test_section_seven_is_well_formed : Instr.wellFormed (.settleExpiry 7) = true := by decide

theorem test_voice_forty_eight_is_ill_formed : Instr.wellFormed (.releaseExpiry 48) = false := by decide

theorem test_voice_forty_seven_is_well_formed : Instr.wellFormed (.releaseExpiry 47) = true := by decide

/-- The table gives no row any bits. -/
theorem test_no_word_spells_a_command : decodeTableWord 32 0xD50C = none := rfl

/-! ## Small states -/

/-- The state a command leaves. -/
def after (i : Instr) (s : State) : State :=
  match exec i s with
  | .next t => t
  | .fault _ => s
  | .refused _ => s

/-- After reset, at a tick, with nothing queued. -/
def quiet (now : Tick) : State := { State.reset with tick := now, evq := { State.reset.evq with entries := [] } }

/-- The handler is about to take a request with TAG 7. -/
def waits (kind : Byte) (payload : List Byte) (s : State) : State :=
  { s with lnk := { s.lnk with inbound := [{ kind := kind, tag := 7, payload := payload }] } }

theorem waits_offers (kind : Byte) (payload : List Byte) (s : State) (h : s.inReset = none) (k : s.lnk.handler = .idle) :
    (waits kind payload s).offers kind 7 payload [] := ⟨h, k, rfl⟩

/-- The payload of the reply in the slot. -/
def replyOf (s : State) : Option (List Byte) := s.lnk.slot.map Frame.payload

/-- The reports that wait, with their due ticks. -/
def reports (s : State) : List (Nat × Report) := s.evq.entries.map fun e => (e.due.toNat, e.report)

/-- A scan that reads one key CLOSED. -/
def closing (key : Nat) : Readings :=
  Vector.ofFn fun a => if a.val = key / 12 then BitVec.ofNat 12 (2 ^ (key % 12)) else 0

/-- A scan that has lasted its two ticks, with one filter as given. -/
def scanned (key : Fin 192) (f : KeyFilter) : State :=
  let s := quiet 142
  { s with
    ksc := { s.ksc with scanning := true, lastStart := some 140, filters := s.ksc.filters.set key f } }

/-- A sample is due. -/
def sampling (b : Bellows) (x : Expression) : State :=
  { quiet 2075 with blu := { b with nextSample := 2075 }, exu := x }

/-- A layer that sends TREBLE to a section. -/
def trebleTo (n : Fin 8) : Layer :=
  { enabled := true, mask := 1, lo := 0, hi := 127, transpose := 0, sect := n, mode := .fold, reattack := false
    accent := false }

/-- Section 0 READY, TREBLE sent to it, and key 27 with push set 71 and pull set 72. -/
def ready0 (now : Tick) : State :=
  let s := quiet now
  { s with
    imap := s.imap.set 27 { cls := .treble, push := [71], pull := [72], preset := 0, condition := .immediate }
    scn := { s.scn with readiness := s.scn.readiness.set 0 .ready }
    reg := { s.reg with active := s.reg.active.set 0 (trebleTo 0) } }

/-- Key 27 held under PUSH on voice 0, which sounds pitch 71 in section 0. -/
def held27 (now : Tick) : State :=
  let s := ready0 now
  { s with
    blu := { s.blu with direction := some .push }
    ksc := { s.ksc with filters := s.ksc.filters.set 27 { down := true, count := 0 } }
    val :=
      { voices := s.val.voices.set 0 { state := .sounding, sect := 0, pitch := 71, holders := 1, serial := 101 }
        held := [{ key := 27, side := .push, pairs := [{ voice := 0, layer := 0 }] }]
        serial := 101 } }

/-! ## Key Scanner -/

/-- Worked example 1.3.1, the scan of tick 140: the third CLOSED reading in a row makes key 67 DOWN. -/
theorem test_third_reading_presses :
    (after (.scanCompletion ⟨closing 67, none⟩) (scanned 67 { down := false, count := 2 })).ksc.filters[67] =
      { down := true, count := 0 } := by decide +kernel

/-- Worked example 1.3.1, the scan of tick 180: one agreeing reading ends a run of two. -/
theorem test_agreeing_reading_restarts :
    (after (.scanCompletion ⟨closing 67, none⟩) (scanned 67 { down := true, count := 2 })).ksc.filters[67] =
      { down := true, count := 0 } := by decide +kernel

/-- Worked example 1.5.1: SetScan with period 20 and agreement 2 is recorded and answered Done. -/
theorem test_set_scan_records :
    replyOf (after .setScan (waits 0x01 [20, 2] (quiet 1001))) = some [0x01, 0x00, 20, 2] := by decide +kernel

/-- Worked example 1.5.1: the new settings open a window of two scans, and the next scan comes 20 ticks after the last start. -/
theorem test_boundary_opens_window :
    (after .scanBoundary
      { quiet 1002 with
        ksc := { hardScanner with recPeriod := 20, recAgreement := 2, lastStart := some 1000 } }).ksc.window = some 2 := by
  decide +kernel

/-- R11: with no scan in progress the boundary is at once: the values of worked example 1.5.1 come into force, and a SetScan that
brings the old ones back opens a second window. -/
theorem test_set_scan_at_once :
    let s := { quiet 1001 with ksc := { hardScanner with lastStart := some 1000 } }
    let t := after .setScan (waits 0x01 [20, 2] s)
    (t.ksc.period = 20 ∧ t.ksc.window = some 2) ∧
      (let u := after .setScan { t with lnk := { (waits 0x01 [10, 3] t).lnk with handler := .idle } }
       u.ksc.period = 10 ∧ u.ksc.window = some 3) := by decide +kernel

/-! ## Bellows Unit -/

/-- Worked example 2.3.3, the sample of tick 2075: the fourth sample below −24 reverses from PUSH to PULL and is reported. -/
theorem test_fourth_sample_reverses :
    let t := after (.sample (-90)) (sampling { hardBellows with direction := some .push, pullRun := 3 } hardExpression)
    t.blu.direction = some .pull ∧ t.blu.pullRun = 0 ∧ reports t = [(2075, .reversal .pull)] := by decide +kernel

/-- Worked example 2.4.1, the sample of tick 3160: the 32nd full-scale sample enters the fault, with its report. -/
theorem test_sensor_fault_entered :
    let t := after (.sample (-5000)) (sampling { hardBellows with direction := some .pull, pullRun := 4, rail := 31 } hardExpression)
    t.blu.sensor = .fault ∧ t.blu.pullRun = 4 ∧ reports t = [(2075, .fault .sensor)] := by decide +kernel

/-- A Calibrate with its 64 samples collected. -/
def calibrating (sum lo hi : Int) : State :=
  let s := quiet 8320
  { s with
    lnk := { s.lnk with handler := .inFlight 0x21 }
    blu :=
      { s.blu with
        collection :=
          some
            { count := 64, sum := sum, minimum := some lo, maximum := some hi, faultAtStart := false
              faultDuring := false } } }

/-- Worked example 2.6.1, case A: the mean of −1000 / 64 floors to −16, and the spread is 45. -/
theorem test_calibration_done :
    let t := after .calibrationEnd (calibrating (-1000) (-35) 10)
    t.blu.offset = -16 ∧ replyOf t = some [0x03, 0x00, 0xFF, 0xF0, 0xFF, 0xF0, 0, 45] := by decide +kernel

/-- Worked example 2.6.1, case B: a spread of 50 exceeds 48, and the offset stays. -/
theorem test_calibration_moved :
    let t := after .calibrationEnd (calibrating (-1000) (-40) 10)
    t.blu.offset = 0 ∧ replyOf t = some [0x03, 0x20, 0, 0, 0xFF, 0xF0, 0, 50] := by decide +kernel

/-! ## Expression Unit -/

/-- Worked case 3.10.1: force 2004 and smoothed force 1626; the curve of the case gives level 85. -/
theorem test_ordinary_sample :
    let t := after (.sample 1400)
      (sampling { hardBellows with offset := 24 }
        { hardExpression with deadZone := 40, gain := 384, smoothing := 2, smoothed := 1500 })
    t.exu.force = 2004 ∧ t.exu.smoothed = 1626 ∧ levelOf #v[0, 20, 48, 80, 112, 150, 190, 228, 255] 1626 = 85 := by
  decide +kernel

/-- Worked case 3.10.2: the force stands at its limit, CLIP is set, and one Fault report is made. -/
theorem test_sample_at_limits :
    let t := after (.sample (-2048))
      (sampling { hardBellows with offset := 200 } { hardExpression with gain := 640, smoothed := 3000 })
    t.exu.force = 4095 ∧ t.exu.smoothed = 3136 ∧ t.stu.sticky = 0x01 ∧ reports t = [(2075, .fault (.sticky .clip))] := by
  decide +kernel

/-- The fourth row of the table under R44: a falling segment is rounded toward its upper point. -/
theorem test_falling_segment : levelOf #v[0, 40, 90, 140, 200, 230, 240, 220, 180] 3900 = 196 := by decide +kernel

/-! ## Tempo Clock -/

/-- The clock of worked example 4.5, with its BEAT edge accepted. -/
def clock45 (now : Tick) (c : Clock) : State := { quiet now with tck := { c with beatLine := { hardFilter with accepted := true } } }

/-- Worked example 4.5: the deadline of 206250 places a synthetic beat on the grid. -/
theorem test_deadline_coasts :
    let t := after .deadline
      (clock45 206250
        { hardClock with
          phase := .running, lastReal := some 200000, period := 5000, reference := 200000, deadline := some 206250
          beatInBar := 1 })
    t.tck.phase = .coasting ∧ t.tck.reference = 205000 ∧ t.tck.beatInBar = 2 ∧ t.tck.deadline = some 211250 ∧
      reports t = [(206250, .clockState .coasting 5000)] := by decide +kernel

/-- Worked example 4.5: the late click of 206400 measures 6400 and is beat 3. -/
theorem test_late_beat :
    let t := after .beatEdge
      (clock45 206400
        { hardClock with
          phase := .coasting, lastReal := some 200000, period := 5000, reference := 205000, deadline := some 211250
          synthetic := 1, beatInBar := 2 })
    t.tck.phase = .running ∧ t.tck.period = 6400 ∧ t.tck.beatInBar = 3 ∧ t.tck.deadline = some 214400 := by
  decide +kernel

/-- R56: a line is sampled once per tick, so two high samples at one tick are one, and the edge comes a tick later. -/
theorem test_one_sample_a_tick :
    let f : LineFilter := { hardFilter with armed := true }
    ((f.sample 1 7 true).sample 1 7 true).accepted = false ∧ ((f.sample 1 7 true).sample 1 8 true).accepted = true ∧
      (f.sample 1 7 true).takeEdge 1 7 = none := by decide

/-! ## Instrument Map, sections, registration -/

/-- R75: key 27 pressed before a WriteKeys is attacked by its old entry, key 40 pressed behind it by the new one. -/
theorem test_write_between_key_events :
    let s := ready0 142
    let e : KeyEntry := { hardKeyEntry with cls := .treble, push := [60] }
    let s := { s with
      ksc := { hardScanner with
        scanning := true, lastStart := some 140
        filters := (hardScanner.filters.set 27 { down := false, count := 2 }).set 40 { down := false, count := 2 } } }
    let both : Readings := Vector.ofFn fun a => (closing 27).get a ||| (closing 40).get a
    let t := fun w => after (.scanCompletion ⟨both, w⟩) (waits 0x06 ([40, 1] ++ e.bytes) s)
    reports (t (some 1)) = [(142, .noteOn 0 71 0 .press), (142, .noteOn 0 60 0 .press)] ∧
      reports (t none) = [(142, .noteOn 0 71 0 .press)] := by decide +kernel

/-- Worked example 5.4.2: first key id 189 with count 4 is refused, its fields given back. -/
theorem test_write_keys_refused :
    replyOf (after .writeKeys (waits 0x06 ([189, 4] ++ (List.replicate 4 hardKeyEntry).flatMap KeyEntry.bytes) (quiet 0))) =
      some [0x06, 0x12, 189, 4] := by decide +kernel

/-- Worked example 6.3.1: ready with settle 30 at tick 10300 sets the expiry 10600. -/
theorem test_settle_expiry_set :
    (after .sectionReady (waits 0x0A [3, 1, 30] (quiet 10300))).scn.readiness[3] = .settling 10600 := by decide +kernel

/-- Worked example 6.3.1: at 10600 the section is READY and its level is reported. -/
theorem test_settle_expiry_comes :
    let s := quiet 10600
    let t := after (.settleExpiry 3) { s with scn := { s.scn with readiness := s.scn.readiness.set 3 (.settling 10600) } }
    t.scn.readiness[3] = .ready ∧ reports t = [(10600, .dynamic 3 0)] := by decide +kernel

/-- Worked example 6.4.1: Resume is refused while the line is high. -/
theorem test_resume_refused :
    let s := quiet 70150
    replyOf (after .resume (waits 0x0C [] { s with scn := { s.scn with cut := true, lastCut := true } })) =
      some [0x0C, 0x14, 1] := by decide +kernel

/-! ## Voice Allocator -/

/-- Worked example 8.6.1 in small: the press of key 27 under PUSH takes voice 0 with the next serial. -/
theorem test_press_takes_lowest_voice :
    let s := ready0 20002
    let t := press 27 { s with val := { s.val with serial := 100 } }
    t.val.voices[0] = { state := .sounding, sect := 0, pitch := 71, holders := 1, serial := 101 } ∧
      reports t = [(20002, .noteOn 0 71 0 .press)] := by decide +kernel

/-- The first reversal of worked example 8.6.1 in small: key 27 is re-pitched from 71 to 72, NoteOff before NoteOn. -/
theorem test_reversal_repitches :
    let t := handReversal .pull (held27 21000)
    reports t =
      [(21000, .reversal .pull), (21000, .noteOff 0 71 .reversal), (21000, .noteOn 0 72 0 .reversal)] := by
  decide +kernel

/-- R137: a second REATTACK key leaves alone a shared voice that has taken a serial in this reversal, even where the counter has come round
to the old serial. -/
theorem test_rearticulated_once :
    let s := held27 21000
    let off := { s with
      reg := { s.reg with active := s.reg.active.set 0 { trebleTo 0 with reattack := true } }
      imap := (s.imap.set 27 { s.imap[27] with pull := [71] }).set 28 { s.imap[27] with pull := [71] }
      val := { s.val with
        voices := s.val.voices.set 0 { s.val.voices[0] with serial := 102, holders := 2 }
        held := s.val.held ++ [{ key := 28, side := .push, pairs := [{ voice := 0, layer := 0 }] }] } }
    reports (takeReversal .pull off) = [(21000, .noteOff 0 71 .reversal), (21000, .noteOn 0 71 0 .reversal)] := by
  decide +kernel

/-- R124: a transposed pitch of 34 folds into 36 to 60 at 46, and one of 83 at 59. -/
theorem test_folding : foldPitch 36 60 34 = 46 ∧ foldPitch 36 60 83 = 59 := by decide

/-- The worked case of R149: with alignment 300, then lowered to 100, the NoteOff of tick 50050 is due at 50300. -/
theorem test_alignment_lowered :
    let s := { quiet 50000 with scn := { hardSections false with records := (hardSections false).records.set 4 { hardRecord with alignment := 300 } } }
    let t := pushSection 4 (.noteOn 4 60 1 .press) s
    let u := { t with tick := 50050, scn := { t.scn with records := t.scn.records.set 4 { hardRecord with alignment := 100 } } }
    reports (pushSection 4 (.noteOff 4 60 .release) u) =
      [(50300, .noteOn 4 60 1 .press), (50300, .noteOff 4 60 .release)] := by decide +kernel

/-- R149: a last-due that came long ago plays no part, however long the section has been quiet. -/
theorem test_old_last_due_plays_no_part : (quiet 0x90000000).dueTick 0 = 0x90000000 := by decide +kernel

/-! ## Link Controller and Status Unit -/

/-- The reference bytes of R168, and the frame of worked example 10.2.1. -/
theorem test_check_of_reference_frames :
    checkOf [0x31, 0x32, 0x33, 0x34, 0x35, 0x36, 0x37, 0x38, 0x39] = 0x29B1#16 ∧
      Frame.line { kind := 0x0C, tag := 0x00, payload := [] } = [0xD5, 0x0C, 0x00, 0x00, 0xB9, 0xFD] := by
  decide +kernel

/-- Worked example 10.2.1 received: the Resume frame joins the inbound queue. -/
theorem test_resume_frame_received :
    let s := quiet 0
    (after .frameComplete
      { s with lnk := { s.lnk with receiver := .assembling [0x0C, 0x00, 0x00, 0xB9, 0xFD] 0 } }).lnk.inbound =
        [{ kind := 0x0C, tag := 0, payload := [] }] := by decide +kernel

/-- A rescan (R171): the held 0xD5 behind a bad LEN starts the next frame. -/
theorem test_rescan_finds_sync :
    let s := quiet 50
    let t := after (.byteArrival 49 false) { s with lnk := { s.lnk with receiver := .assembling [0x01, 0xD5] 40 } }
    t.lnk.receiver = .assembling [49] 50 ∧ t.stu.sticky = 0x04 := by decide +kernel

/-- R178: a report frame carries the report sequence as TAG and its due tick first. -/
theorem test_started_frame :
    (after .transmit State.reset).lnk.transmitter =
      .sending (Frame.line { kind := 0x88, tag := 0, payload := [0, 0, 0, 0, 0] }) := by decide +kernel

/-- R188: the mask clears the flag and its counter, and the reply carries what is left. -/
theorem test_clear_flags :
    let s := quiet 0
    let t := after .clearFlags (waits 0x13 [0x10] { s with stu := { s.stu with sticky := 0x30, checkCount := 3, overrunCount := 1 } })
    t.stu.checkCount = 0 ∧ t.stu.overrunCount = 1 ∧ replyOf t = some [0x13, 0x00, 0x20] := by decide +kernel

/-! ## Resets -/

/-- R95: a CUT line high at release puts the part in CUT with cause LINE. -/
theorem test_release_with_cut_high :
    let t := after (.resetRelease false true true) { State.reset with inReset := some .line }
    t.scn.cut = true ∧ t.scn.cutCause = some .line ∧ t.lnk.rate = .m1 ∧ reports t = [(0, .started .line)] := by
  decide +kernel

/-- R90: the sample taken at release is the first; with a low one, highs at ticks 1 to 3 give the edge at tick 3. -/
theorem test_cut_edge_after_release :
    let high := fun n : Tick => fun f : LineFilter => f.sample 2 n true
    (high 3 (high 2 (high 1 (releaseFilter false)))).accepted = true ∧
      (high 2 (high 1 (releaseFilter false))).accepted = false ∧
      (high 3 (high 2 (high 1 (releaseFilter true)))).accepted = false := by decide

/-- R157, R179: the soft reset leaves AllOff and Started behind the reply Done. -/
theorem test_soft_reset :
    let t := after .reset (waits 0x14 [] (held27 900))
    reports t = [(900, .allOff .reset), (900, .started .soft)] ∧ t.val.held = [] ∧ replyOf t = some [0x14, 0x00] := by
  decide +kernel

/-! ## Witnesses -/

theorem witness_EmptyQueueTakesADueEventOrATick :
    (State.reset.pending = [] ∧ State.reset.dueEvents = [.scanStart, .transmit]) ∧
      (let s := { quiet 0 with ksc := { hardScanner with lastStart := some 0 } }
       s.pending = [] ∧ s.dueEvents = [] ∧ s.inReset = none ∧ s.awaitsWorld = true) ∧
      (let f : LineFilter := { hardFilter with sampledAt := some 0 }
       let s := { quiet 0 with
         ksc := { hardScanner with lastStart := some 0 }, tck := { hardClock with beatLine := f, barLine := f } }
       s.pending = [] ∧ s.dueEvents = [] ∧ s.inReset = none ∧ s.awaitsWorld = false) ∧
      ({ State.reset with inReset := some .line } : State).inReset = some .line := by decide +kernel

/-- At reset no closing event is due, and the first scan's start and the Started report are. -/
theorem witness_EmptyQueueTakesADueEventOrATick_open :
    State.reset.inReset = none ∧ (∀ j, ¬ State.reset.closes j) ∧ State.reset.comesDue .scanStart ∧
      State.reset.comesDue .transmit := by
  refine ⟨rfl, ?_, ⟨rfl, by simp [State.reset, State.released, hardScanner]⟩, rfl, .inr ⟨_, _, rfl, .inr (by decide +kernel)⟩⟩
  intro j h
  cases j
  case calibrationEnd => obtain ⟨⟨_, h⟩, _⟩ := h; cases h
  case reinitialisationWindowEnd => cases h
  case scanBoundary => rcases h with ⟨_, h | h⟩ <;> exact h rfl
  all_goals exact h

/-- A boundary comes before the scan start that is due with it. -/
theorem witness_EmptyQueueTakesADueEventOrATick_closing :
    let s := { State.reset with ksc := { hardScanner with recPeriod := 20 } }
    s.inReset = none ∧ s.closes .scanBoundary ∧ s.dueEvents = [.scanBoundary] := by
  exact ⟨rfl, ⟨rfl, .inl (by decide)⟩, by decide +kernel⟩

theorem witness_HardResetStopsFrameAndScan :
    State.reset.inReset = none ∧ ({ State.reset with inReset := some .power } : State).inReset = some .power ∧
      ({ State.reset with inReset := some .line } : State).inReset = some .line := ⟨rfl, rfl, rfl⟩

theorem witness_NothingHappensWhileResetIsLow :
    ({ State.reset with inReset := some .line } : State).inReset = some .line ∧ (∀ d, Instr.gap ≠ .hardReset d) ∧
      (∀ a b d, Instr.gap ≠ .resetRelease a b d) := by
  exact ⟨rfl, by simp, by simp⟩

theorem witness_ReleaseTakesTheHardResetValues :
    ({ State.reset with inReset := some .power } : State).inReset = some .power := rfl

theorem witness_ResetRequestSoftResetsThePart : (waits 0x14 [] (held27 0)).offers 0x14 7 [] [] := by
  exact waits_offers _ _ _ rfl rfl

theorem witness_ScanStartsOnePeriodAfterTheLast :
    let s := fun now : Tick => { quiet now with ksc := { hardScanner with lastStart := some 1000 } }
    ((s 1010).inReset = none ∧ (s 1010).ksc.scanning = false ∧ (s 1010).ksc.recPeriod = (s 1010).ksc.period ∧
      (s 1010).ksc.recAgreement = (s 1010).ksc.agreement) ∧
      (s 1010).reached (1000 + BitVec.ofNat 32 (s 1010).ksc.period) ∧
      ¬ (s 1009).reached (1000 + BitVec.ofNat 32 (s 1009).ksc.period) ∧ State.reset.ksc.lastStart = none := by
  decide +kernel

theorem witness_BoundaryOpensAWindowAndTheWindowEnds :
    let s := { quiet 0 with ksc := { hardScanner with recPeriod := 20, window := some 0 } }
    s.inReset = none ∧ s.ksc.scanning = false ∧ s.ksc.recPeriod ≠ s.ksc.period ∧ s.ksc.window = some 0 ∧
      (State.reset.ksc.recPeriod = State.reset.ksc.period ∧ State.reset.ksc.recAgreement = State.reset.ksc.agreement ∧
        State.reset.ksc.window ≠ some 0) := by decide +kernel

theorem witness_BoundaryOpensAWindowAndTheWindowEnds_setScan :
    let s := waits 0x01 [20, 5] { quiet 0 with ksc := { hardScanner with recPeriod := 20, window := some 0 } }
    s.offers 0x01 7 [20, 5] [] ∧ (20#8).toNat ∈ [0, 5, 10, 20] ∧
      ({ hardScanner with scanning := true } : Scanner).scanning = true := by
  exact ⟨waits_offers _ _ _ rfl rfl, by decide, rfl⟩

theorem scanned_finished (k : Fin 192) (f : KeyFilter) : (scanned k f).scanFinished :=
  ⟨rfl, rfl, 140, rfl, (by decide : (2 : Int) ≤ ((142 : Tick) - 140).toInt)⟩

theorem witness_ScanInAWindowMakesNoEvent :
    let s := scanned 67 { down := false, count := 2 }
    let u := { s with ksc := { s.ksc with window := some 1 } }
    u.scanFinished ∧ u.ksc.window = some (0 + 1) := by
  exact ⟨⟨rfl, rfl, 140, rfl, by decide⟩, rfl⟩

theorem witness_ScanUpdatesEveryFilter :
    (scanned 67 { down := false, count := 1 }).scanFinished ∧ (scanned 67 { down := false, count := 1 }).ksc.window = none ∧
      ∀ k : Fin 192, closedIn (closing 67) k = (scanned 67 { down := false, count := 1 }).ksc.filters[k].down ∨
        (scanned 67 { down := false, count := 1 }).ksc.filters[k].count + 1 <
          (scanned 67 { down := false, count := 1 }).ksc.agreement := by
  exact ⟨scanned_finished _ _, rfl, by decide +kernel⟩

/-- Key 27 about to turn, at a completed scan, over a state. -/
def turning (s : State) (f : KeyFilter) : State :=
  { s with ksc := { hardScanner with scanning := true, lastStart := some (s.tick - 2), filters := hardScanner.filters.set 27 f } }

/-- One key turning, whatever the state beside the scanner: a press, and a release. -/
theorem witness_OneKeyEventIsRoutedByClass :
    (let s := turning (ready0 142) { down := false, count := 2 }
     (s.ksc.window = none ∧ (s.imap[(27 : Fin 192)]).cls = .treble ∧ s.scn.cut = false ∧ s.val.held.length < 24) ∧
       closedIn (closing 27) 27 = true ∧
       ∀ j : Fin 192, (closedIn (closing 27) j ≠ s.ksc.filters[j].down ∧ s.ksc.agreement ≤ s.ksc.filters[j].count + 1) ↔
         j = 27) ∧
      (let s := turning (held27 142) { down := true, count := 2 }
       closedIn (closing 200) 27 = false ∧ (∃ h ∈ s.val.held, h.key = 27) ∧
         ∀ j : Fin 192, (closedIn (closing 200) j ≠ s.ksc.filters[j].down ∧ s.ksc.agreement ≤ s.ksc.filters[j].count + 1) ↔
           j = 27) := by decide +kernel

theorem witness_OneKeyEventIsRoutedByClass_finished :
    (turning (ready0 142) { down := false, count := 2 }).scanFinished ∧
      (turning (held27 142) { down := true, count := 2 }).scanFinished :=
  ⟨⟨rfl, rfl, 140, rfl, by decide⟩, ⟨rfl, rfl, 140, rfl, by decide⟩⟩

/-- The other presses: an UNUSED key, a REGISTER key of each kind of condition, a cut part, and a full held-key table. -/
theorem witness_OneKeyEventIsRoutedByClass_presses :
    let s := turning (ready0 142) { down := false, count := 2 }
    let asKey := fun e : KeyEntry => { s with imap := s.imap.set 27 e }
    ((asKey hardKeyEntry).imap[(27 : Fin 192)]).cls = .unused ∧
      ((asKey { hardKeyEntry with cls := .register, preset := 15 }).imap[(27 : Fin 192)]).condition = .immediate ∧
      ((asKey { hardKeyEntry with cls := .register, condition := .next .bar }).imap[(27 : Fin 192)]).condition = .next .bar ∧
      ({ s with scn := hardSections true } : State).scn.cut = true ∧
      24 ≤ (List.replicate 24 ({ key := 0, side := .push, pairs := [] } : HeldKey)).length ∧
      (∀ h ∈ (turning (ready0 142) { down := true, count := 2 }).val.held, h.key ≠ 27) := by decide +kernel

theorem witness_OneKeyEventIsRoutedByClass_release :
    (held27 142).val.held.find? (fun h => h.key == 27) = some { key := 27, side := .push, pairs := [{ voice := 0, layer := 0 }] } := by
  decide +kernel

theorem witness_SetScanRecordsTheSettings :
    (waits 0x01 [20, 5] (quiet 0)).offers 0x01 7 [20, 5] [] ∧ (20#8).toNat ∈ [0, 5, 10, 20] ∧
      (waits 0x01 [21, 5] (quiet 0)).offers 0x01 7 [21, 5] [] ∧ (21#8).toNat ∉ [0, 5, 10, 20] := by
  exact ⟨waits_offers _ _ _ rfl rfl, by decide, waits_offers _ _ _ rfl rfl, by decide⟩

theorem witness_SetScanRecordsTheSettings_boundary :
    let s := waits 0x01 [20, 5] (quiet 0)
    s.ksc.scanning = false ∧ s.ksc.recPeriod = s.ksc.period ∧ s.ksc.recAgreement = s.ksc.agreement ∧
      ¬ (20 = s.ksc.period ∧ 4 = s.ksc.agreement) ∧ (10 = s.ksc.period ∧ 3 = s.ksc.agreement) ∧
      (waits 0x01 [20, 5] (scanned 0 { down := false, count := 0 })).ksc.scanning = true := by decide +kernel

theorem witness_OrdinarySampleMovesTheDirection :
    (sampling { hardBellows with rail := 30 } hardExpression).samplesOrdinary 2047 ∧
      ((quiet 4).inReset = none ∧ ¬ (quiet 4).reached (quiet 4).blu.nextSample) := by decide +kernel

theorem witness_OnlyAReversalIsHandedOn :
    let s := sampling { hardBellows with direction := some .push, pullRun := 3 } hardExpression
    s.samplesOrdinary (-90) ∧ s.blu.direction ≠ some .pull ∧ (after (.sample (-90)) s).blu.direction = some .pull ∧
      s.soundingTotal + 10 ≤ 128 - s.fill ∧ s.val.held = [] ∧ s.reg.slot = none := by decide +kernel

theorem witness_SensorFaultIsEnteredHeldAndEnded :
    ((sampling { hardBellows with rail := 31 } hardExpression).samples ∧ rawOf 2047 = 2047) ∧
      ((sampling { hardBellows with sensor := .fault, recovery := 15 } hardExpression).samples ∧
        ¬ (rawOf 2046 = -2048 ∨ rawOf 2046 = 2047)) ∧
      (sampling { hardBellows with sensor := .fault, recovery := 14 } hardExpression).samples := by decide +kernel

theorem witness_SetBellowsPutsClampedValuesInForce :
    (waits 0x02 [2, 1, 33] (quiet 0)).offers 0x02 7 [2, 1, 33] [] := by
  exact waits_offers _ _ _ rfl rfl

theorem witness_CalibrateStartsACollection :
    (waits 0x03 [] (quiet 0)).offers 0x03 7 [] [] ∧
      (let c : Collection :=
         { count := 63, sum := 0, minimum := some 0, maximum := none, faultAtStart := false, faultDuring := false }
       let s := sampling { hardBellows with collection := some c } hardExpression
       s.samples ∧ s.blu.collection = some c ∧ c.count < 64) := by
  exact ⟨waits_offers _ _ _ rfl rfl, by decide +kernel⟩

theorem witness_CalibrationEndsWithItsOutcome :
    ∃ c, (calibrating 19500 290 320).inReset = none ∧ (calibrating 19500 290 320).lnk.handler = .inFlight 0x21 ∧
      (calibrating 19500 290 320).blu.collection = some c ∧ c.count = 64 ∧ c.minimum = some 290 ∧ c.maximum = some 320 ∧
      (290 : Int) ≤ 320 := by
  exact ⟨_, rfl, rfl, rfl, rfl, rfl, rfl, by decide⟩

theorem witness_OrdinarySampleMovesTheForce :
    (sampling hardBellows hardExpression).samplesOrdinary (-2047) := by decide +kernel

/-- Worked case 3.10.2 and the second row of R19: both ways of setting CLIP. -/
theorem witness_OrdinarySampleMovesTheForce_clips :
    let s := sampling { hardBellows with offset := 200 } { hardExpression with gain := 640 }
    (s.samplesOrdinary (-2048) ∧ centredOf (rawOf (-2048)) s.blu.offset ≠ rawOf (-2048) - s.blu.offset ∧
      4095 < ((centredOf (rawOf (-2048)) s.blu.offset).natAbs - s.exu.deadZone) * s.exu.gain / 256) ∧
      s.stu.sticky.getLsbD 0 = false ∧ s.soundingTotal + 1 ≤ 128 - s.fill := by decide +kernel

theorem witness_EverySampleTakesTheLevels :
    (sampling { hardBellows with sensor := .fault } hardExpression).samples ∧
      (sampling hardBellows hardExpression).scn.readiness[7] ≠ .ready ∧
      ({ sampling hardBellows hardExpression with scn := hardSections true } : State).scn.cut = true := by decide +kernel

/-- A READY section in NORMAL: a level of 0 after a last report of 3, one of 64 after 61 and after 60, and a full queue. -/
theorem witness_EverySampleTakesTheLevels_reports :
    let at' := fun (e last : Nat) =>
      let s := sampling { hardBellows with sensor := .fault } { hardExpression with smoothed := e }
      { s with
        scn := { s.scn with readiness := s.scn.readiness.set 7 .ready }
        exu := { s.exu with sections := s.exu.sections.set 7 { s.exu.sections[7] with last := last } } }
    let level := fun s : State => (after (.sample 0) s).exu.sections[(7 : Fin 8)].level
    ((at' 0 3).samples ∧ (at' 0 3).scn.cut = false ∧ (at' 0 3).scn.readiness[(7 : Fin 8)] = .ready ∧
      (at' 0 3).soundingTotal + 9 ≤ 128 - (at' 0 3).fill) ∧
      level (at' 0 3) = 0 ∧ level (at' 1024 61) = 64 ∧ 60 + (at' 1024 60).exu.reportStep ≤ level (at' 1024 60) ∧
      ¬ 61 + (at' 1024 61).exu.reportStep ≤ level (at' 1024 61) ∧ level (at' 4095 254) = 254 ∧
      (let e : Entry := { report := .reversal .push, due := 0, order := 0 }
       let s := { at' 0 3 with evq := { (at' 0 3).evq with entries := List.replicate 128 e } }
       s.holdsDynamic 7 = false ∧ 128 - s.fill < s.soundingTotal + 1) := by decide +kernel

theorem witness_SetExpressionPutsClampedValuesInForce :
    (waits 0x04 [1, 0, 4, 0, 7, 16, 0, 1, 0, 33] (quiet 0)).offers 0x04 7 [1, 0, 4, 0, 7, 16, 0, 1, 0, 33] [] := by
  exact waits_offers _ _ _ rfl rfl

theorem witness_LineSamplesFilterEdges :
    (quiet 0).inReset = none ∧ (quiet 1).scn.cutLine.sampledAt ≠ some (quiet 1).tick ∧
      (quiet 0).scn.cutLine.sampledAt = some (quiet 0).tick ∧
      (let f : LineFilter := { hardFilter with armed := true, high := 1 }
       f.accepted = false ∧ f.sampledAt ≠ some 5 ∧ f.armed = true ∧ f.high = 1) := by decide +kernel

theorem witness_BeatEdgeIsARealBeat :
    (let s := clock45 201999 { hardClock with lastReal := some 200000 }
     s.inReset = none ∧ s.tck.beatLine.accepted = true ∧ s.tck.lastReal = some 200000 ∧
       (s.tick - 200000).toInt < 2000) ∧
      (let s := clock45 202000 { hardClock with lastReal := some 200000 }
       s.inReset = none ∧ s.tck.beatLine.accepted = true ∧ s.tck.lastReal = some 200000 ∧
         2000 ≤ (s.tick - 200000).toInt) ∧
      (clock45 202000 hardClock).tck.lastReal = none ∧
      (let c : Change := { preset := 15, trigger := .bar, origin := .switch }
       some c = some c ∧ c.trigger = .bar) := by decide +kernel

/-- A change of clock state that is reported, one that a full queue refuses, and a waiting change that the beat commits. -/
theorem witness_BeatEdgeIsARealBeat_reports :
    let s := clock45 202000 hardClock
    (s.tck.phase = .stopped ∧ s.soundingTotal + 1 ≤ 128 - s.fill) ∧
      (let e : Entry := { report := .reversal .push, due := 0, order := 0 }
       let u := { s with evq := { s.evq with entries := List.replicate 128 e } }
       128 - u.fill < u.soundingTotal + 1) ∧
      (let c : Change := { preset := 15, trigger := .beat, origin := .switch }
       ({ s with reg := { s.reg with slot := some c } } : State).reg.slot = some c ∧ c.trigger = .beat) := by decide +kernel

theorem witness_BarEdgeMarksAndOldBeatsLapse :
    (clock45 220001 { hardClock with lastReal := some 200000 }).inReset = none ∧
      (clock45 220001 { hardClock with lastReal := some 200000 }).tck.lastReal = some 200000 ∧
      ({ hardClock with barLine := { hardFilter with accepted := true } } : Clock).barLine.accepted = true ∧
      20001 ≤ ((clock45 220001 { hardClock with lastReal := some 200000 }).tick - 200000).toInt ∧
      ((clock45 220000 { hardClock with lastReal := some 200000 }).tick - 200000).toInt < 20001 := by decide +kernel

theorem witness_DeadlineCoastsOrStops :
    let s := fun (now : Tick) (n : Nat) =>
      clock45 now { hardClock with phase := .coasting, period := 5000, deadline := some 206250, synthetic := n }
    ((s 206249 3).inReset = none ∧ (s 206249 3).tck.deadline = some 206250 ∧ ¬ (s 206249 3).reached 206250) ∧
      ((s 206250 3).reached 206250 ∧ (s 206250 3).tck.synthetic < (s 206250 3).tck.coast) ∧
      ((s 206250 4).reached 206250 ∧ (s 206250 4).tck.coast ≤ (s 206250 4).tck.synthetic) := by decide +kernel

theorem witness_DeadlineCoastsOrStops_reports :
    let s := fun phase : ClockPhase =>
      clock45 206250 { hardClock with phase := phase, period := 5000, deadline := some 206250, beatInBar := 4 }
    ((s .running).tck.phase ≠ .coasting ∧ (s .running).tck.phase ≠ .stopped ∧
      (s .running).soundingTotal + 1 ≤ 128 - (s .running).fill ∧ (s .coasting).tck.phase = .coasting) ∧
      (let c : Change := { preset := 15, trigger := .bar, origin := .switch }
       ({ s .running with reg := { (s .running).reg with slot := some c } } : State).reg.slot = some c ∧ c.trigger = .bar ∧
         (s .running).tck.beatsPerBar ≤ (s .running).tck.beatInBar) := by decide +kernel

theorem witness_SetClockPutsClampedValuesInForce : (waits 0x05 [17, 9] (quiet 0)).offers 0x05 7 [17, 9] [] := by
  exact waits_offers _ _ _ rfl rfl

/-- An entry at the ends of its ranges. -/
def edgeEntry : KeyEntry := { cls := .register, push := [127, 0, 1, 2], pull := [], preset := 15, condition := .next .bar }

theorem witness_WriteKeysReplacesTheEntries :
    (1 ≤ [edgeEntry].length ∧ [edgeEntry].length ≤ 4 ∧ ∀ e ∈ [edgeEntry], KeyEntryLegal e) ∧
      (waits 0x06 (191 :: BitVec.ofNat 8 [edgeEntry].length :: [edgeEntry].flatMap KeyEntry.bytes) (quiet 0)).offers 0x06 7
        (191 :: BitVec.ofNat 8 [edgeEntry].length :: [edgeEntry].flatMap KeyEntry.bytes) [] ∧
      (191#8).toNat + [edgeEntry].length ≤ 192 ∧ 192 < (192#8).toNat + [edgeEntry].length := by
  exact ⟨by decide, waits_offers _ _ _ rfl rfl, by decide, by decide⟩

/-- A record with its fields at their limits, one with a set length of 5, and a TREBLE record whose register fields are not codes. -/
theorem witness_WriteKeysReplacesTheEntries_records :
    let good : List Byte := [0x34, 0x41, 127, 0, 1, 2, 127, 255, 0, 0, 15]
    let long : List Byte := [0x01, 0x50, 0, 0, 0, 0, 0, 0, 0, 0, 0]
    let treble : List Byte := [0xF1, 0x10, 60, 0, 0, 0, 0, 0, 0, 0, 200]
    (RecordLegal good ∧ ¬ RecordLegal long ∧ RecordLegal treble ∧ ∀ r ∈ [good, long, treble], r.length = 11) ∧
      (waits 0x06 (189 :: BitVec.ofNat 8 [good, long, treble].length :: [good, long, treble].flatten) (quiet 0)).offers 0x06 7
        (189 :: BitVec.ofNat 8 [good, long, treble].length :: [good, long, treble].flatten) [] ∧
      (189#8).toNat + [good, long, treble].length ≤ 192 ∧
      EntryReads treble { cls := .treble, push := [60], pull := [], preset := 0, condition := .immediate } := by
  exact ⟨by decide, waits_offers _ _ _ rfl rfl, by decide, by decide⟩

theorem witness_ReadRequestsAnswerTheRecords :
    (waits 0x07 [188, 4] (quiet 0)).offers 0x07 7 [BitVec.ofNat 8 (188 : Fin 192).val, BitVec.ofNat 8 4] [] ∧
      (waits 0x09 [7] (quiet 0)).offers 0x09 7 [BitVec.ofNat 8 (7 : Fin 8).val] [] ∧
      (waits 0x10 [15, 7] (quiet 0)).offers 0x10 7 [BitVec.ofNat 8 (15 : Fin 16).val, BitVec.ofNat 8 (7 : Fin 8).val] [] ∧
      (waits 0x10 [16, 7] (quiet 0)).offers 0x10 7 [16, BitVec.ofNat 8 (7 : Fin 8).val] [] := by
  exact ⟨waits_offers _ _ _ rfl rfl, waits_offers _ _ _ rfl rfl, waits_offers _ _ _ rfl rfl, waits_offers _ _ _ rfl rfl⟩

theorem witness_ReadRequestsAnswerTheRecords_refused :
    ((waits 0x07 [189, 4] (quiet 0)).offers 0x07 7 [189, 4] [] ∧ 192 < (189#8).toNat + (4#8).toNat) ∧
      ((waits 0x09 [8] (quiet 0)).offers 0x09 7 [8] [] ∧ 7 < (8#8).toNat) ∧
      ((waits 0x10 [17, 8] (quiet 0)).offers 0x10 7 [17, 8] [] ∧ 16 < (17#8).toNat ∧ 7 < (8#8).toNat) := by
  exact ⟨⟨waits_offers _ _ _ rfl rfl, by decide⟩, ⟨waits_offers _ _ _ rfl rfl, by decide⟩, waits_offers _ _ _ rfl rfl,
    by decide, by decide⟩

theorem witness_StatusAnswersTheSummary : (waits 0x12 [] (quiet 0)).offers 0x12 7 [] [] := by
  exact waits_offers _ _ _ rfl rfl

/-- A record that is clamped in every field that can be. -/
def wideRecord : SectionRecord :=
  { hardRecord with polyphony := 0, lo := 116, releaseHold := 2001, alignment := 401, boost := 128 }

theorem witness_WriteSectionReplacesTheRecord :
    (RecordCarried wideRecord ∧ wideRecord.hi ≤ 127 ∧ wideRecord.lo + 11 ≤ wideRecord.hi) ∧
      (waits 0x08 (BitVec.ofNat 8 (7 : Fin 8).val :: wideRecord.bytes) (quiet 0)).offers 0x08 7
        (BitVec.ofNat 8 (7 : Fin 8).val :: wideRecord.bytes) [] ∧
      (let r := { wideRecord with lo := 117 }
       RecordCarried r ∧ r.hi < r.lo + 11) := by
  exact ⟨by decide +kernel, waits_offers _ _ _ rfl rfl, by decide +kernel⟩

/-- A limit below the SOUNDING count: two voices of section 0, and a carried limit of 0, which is taken as 1. -/
theorem witness_WriteSectionReplacesTheRecord_limit :
    let s := held27 0
    let u := { s with
      val := { s.val with voices := s.val.voices.set 1 { state := .sounding, sect := 0, pitch := 72, holders := 1, serial := 9 } } }
    let r := { wideRecord with polyphony := 0 }
    RecordCarried r ∧ r.hi ≤ 127 ∧ r.lo + 11 ≤ r.hi ∧ r.taken.polyphony = 1 ∧ u.soundingIn 0 = 2 ∧
      (waits 0x08 (BitVec.ofNat 8 (0 : Fin 8).val :: r.bytes) u).offers 0x08 7
        (BitVec.ofNat 8 (0 : Fin 8).val :: r.bytes) [] ∧ u.val.voices[(47 : Fin 48)].state ≠ .sounding := by
  exact ⟨by decide +kernel, by decide, by decide, by decide, by decide +kernel, waits_offers _ _ _ rfl rfl, by decide +kernel⟩

theorem witness_WriteSectionReplacesTheRecord_refused :
    (waits 0x08 (8 :: wideRecord.bytes) (quiet 0)).offers 0x08 7 (8 :: wideRecord.bytes) [] ∧ 7 < (8#8).toNat ∧
      wideRecord.bytes.length = 17 := by
  exact ⟨waits_offers _ _ _ rfl rfl, by decide, by decide⟩

theorem witness_SectionReadyChangesReadiness :
    (waits 0x0A [0, 1, 255] (held27 0)).offers 0x0A 7 [BitVec.ofNat 8 (0 : Fin 8).val, 1, 255] [] ∧
      (waits 0x0A [0, 0, 255] (held27 0)).offers 0x0A 7 [BitVec.ofNat 8 (0 : Fin 8).val, 0, 255] [] ∧
      (waits 0x0A [0, 0, 255] (held27 0)).scn.readiness[(0 : Fin 8)] = .ready ∧
      (waits 0x0A [7, 1, 0] (held27 0)).scn.readiness[(7 : Fin 8)] ≠ .ready := by
  exact ⟨waits_offers _ _ _ rfl rfl, waits_offers _ _ _ rfl rfl, by decide +kernel, by decide +kernel⟩

/-- A section that leaves READY with a SOUNDING voice. -/
theorem witness_SectionReadyChangesReadiness_sounding :
    let s := waits 0x0A [0, 0, 255] (held27 0)
    s.scn.readiness[(0 : Fin 8)] = .ready ∧ s.val.voices[(0 : Fin 48)].sect = 0 ∧
      s.val.voices[(0 : Fin 48)].state = .sounding ∧ s.val.held ≠ [] := by decide +kernel

theorem witness_SectionReadyChangesReadiness_refused :
    ((waits 0x0A [8, 1, 0] (quiet 0)).offers 0x0A 7 [8, 1, 0] [] ∧ 7 < (8#8).toNat) ∧
      ((waits 0x0A [7, 2, 0] (quiet 0)).offers 0x0A 7 [7, 2, 0] [] ∧ 1 < (2#8).toNat) ∧
      (quiet 0).scn.cut = false ∧ (quiet 0).soundingTotal + 1 ≤ 128 - (quiet 0).fill := by
  exact ⟨⟨waits_offers _ _ _ rfl rfl, by decide⟩, ⟨waits_offers _ _ _ rfl rfl, by decide⟩, rfl, by decide +kernel⟩

theorem witness_SettleExpiryMakesReady :
    let s := fun now : Tick =>
      { quiet now with scn := { hardSections false with readiness := (hardSections false).readiness.set 3 (.settling 10600) } }
    ((s 10600).inReset = none ∧ (s 10600).scn.readiness[(3 : Fin 8)] = .settling 10600 ∧ (s 10600).reached 10600) ∧
      (s 10600).scn.cut = false ∧ (s 10600).soundingTotal + 1 ≤ 128 - (s 10600).fill ∧ ¬ (s 10599).reached 10600 := by
  decide +kernel

/-- The report of a section becoming READY: a Dynamic entry of it waits; none waits and there is room, or none. -/
theorem witness_SettleExpiryMakesReady_reports :
    let s := quiet 10600
    let holding := fun es : List Entry => { s with evq := { s.evq with entries := es } }
    (holding [{ report := .dynamic 3 9, due := 10500, order := 0 }]).holdsDynamic 3 = true ∧ s.holdsDynamic 3 = false ∧
      s.soundingTotal + 1 ≤ 128 - s.fill ∧
      (let u := holding (List.replicate 128 { report := .reversal .push, due := 0, order := 0 })
       u.holdsDynamic 3 = false ∧ 128 - u.fill < u.soundingTotal + 1) := by decide +kernel

theorem witness_CutEndsVoicesAndQueuesAllOff :
    (let s := { held27 0 with scn := { hardSections false with cutLine := { hardFilter with accepted := true } } }
     s.inReset = none ∧ s.scn.cutLine.accepted = true ∧ s.scn.cut = false) ∧
      (waits 0x0B [] (held27 0)).offers 0x0B 7 [] [] ∧ (hardSections true).cut = true := by
  exact ⟨by decide +kernel, waits_offers _ _ _ rfl rfl, rfl⟩

theorem witness_ResumeReturnsToNormal :
    let s := fun line : Bool => { quiet 0 with scn := { hardSections true with lastCut := line } }
    (waits 0x0C [] (s true)).offers 0x0C 7 [] [] ∧ ((s true).scn.cut = true ∧ (s true).scn.lastCut = true) ∧
      ((s false).scn.cut = true ∧ (s false).scn.lastCut = false) ∧ (quiet 0).scn.cut = false := by
  exact ⟨waits_offers _ _ _ rfl rfl, ⟨rfl, rfl⟩, ⟨rfl, rfl⟩, rfl⟩

/-- The reports of a Resume: a READY section with room, with a Dynamic entry waiting, and with no room. -/
theorem witness_ResumeReturnsToNormal_reports :
    let s := held27 0
    (s.scn.readiness[(0 : Fin 8)] = .ready ∧ s.soundingTotal + 8 ≤ 128 - s.fill ∧ s.scn.readiness[(7 : Fin 8)] ≠ .ready) ∧
      ({ s with evq := { s.evq with entries := [{ report := .dynamic 0 9, due := 0, order := 0 }] } } : State).holdsDynamic 0 =
        true ∧
      (let e : Entry := { report := .reversal .push, due := 0, order := 0 }
       let u := { s with evq := { s.evq with entries := List.replicate 128 e } }
       u.holdsDynamic 0 = false ∧ 128 - u.fill < u.soundingTotal + 1) ∧ (∀ e ∈ s.evq.entries, e.order < s.evq.made) := by
  decide +kernel

theorem witness_SelectPresetCommitsOrWaits :
    (waits 0x0D [15, 3] (quiet 0)).offers 0x0D 7 [15, 3] [] ∧ (15 : Fin 16).val = (15#8).toNat ∧
      (3#8).toNat = Trigger.code .bar ∧ (quiet 0).scn.cut = false ∧ 15 < (16#8).toNat ∧ 3 < (4#8).toNat := by
  exact ⟨waits_offers _ _ _ rfl rfl, by decide, by decide, rfl, by decide, by decide⟩

theorem witness_SelectPresetCommitsOrWaits_revoice :
    let s := held27 0
    let u := { s with reg := { s.reg with store := s.reg.store.set 15 { s.reg.store[15] with revoice := true } } }
    u.reg.store[(15 : Fin 16)].revoice = true ∧ s.reg.store[(15 : Fin 16)].revoice = false ∧
      u.soundingTotal + 1 ≤ 128 - u.fill := by decide +kernel

theorem witness_CancelPendingEmptiesTheSlot : (waits 0x0E [] (quiet 0)).offers 0x0E 7 [] [] := by
  exact waits_offers _ _ _ rfl rfl

/-- A layer at the ends of its ranges. -/
def edgeLayer : Layer :=
  { enabled := true, mask := 7, lo := 127, hi := 127, transpose := -48, sect := 7, mode := .drop, reattack := true
    accent := true }

theorem witness_WriteLayerReplacesTheRecord :
    LayerLegal edgeLayer ∧
      (waits 0x0F (BitVec.ofNat 8 (15 : Fin 16).val :: BitVec.ofNat 8 (7 : Fin 8).val :: edgeLayer.bytes) (quiet 0)).offers
        0x0F 7 (BitVec.ofNat 8 (15 : Fin 16).val :: BitVec.ofNat 8 (7 : Fin 8).val :: edgeLayer.bytes) [] := by
  exact ⟨by decide, waits_offers _ _ _ rfl rfl⟩

theorem witness_WriteLayerReplacesTheRecord_refused :
    LayerCarried { edgeLayer with transpose := -128 } ∧ LayerCarried edgeLayer ∧
      ([2, 7, 0, 127, 0, 7, 1, 1, 1] : List Byte).length = 9 ∧ ¬ LayerRecordLegal [2, 7, 0, 127, 0, 7, 1, 1, 1] ∧
      LayerRecordLegal [1, 7, 0, 127, 0, 7, 1, 1, 1] ∧
      (waits 0x0F (16 :: 8 :: [1, 7, 0, 127, 0, 7, 1, 1, 1]) (quiet 0)).offers 0x0F 7
        (16 :: 8 :: [1, 7, 0, 127, 0, 7, 1, 1, 1]) [] ∧ 15 < (16#8).toNat ∧ 7 < (8#8).toNat := by
  exact ⟨by decide, by decide, by decide, by decide, by decide, waits_offers _ _ _ rfl rfl, by decide, by decide⟩

theorem witness_SetPresetFlagsSetsRevoice :
    (waits 0x11 [15, 1] (quiet 0)).offers 0x11 7 [15, 1] [] ∧ (15 : Fin 16).val = (15#8).toNat ∧ (1#8).toNat ≤ 1 ∧
      15 < (16#8).toNat ∧ 1 < (2#8).toNat := by
  exact ⟨waits_offers _ _ _ rfl rfl, by decide, by decide, by decide, by decide⟩

theorem witness_FoldingEndsInTheRange :
    (116 : Int) + 11 ≤ 127 ∧ ((wideRecord.lo : Int) ≤ 127 ∧ (127 : Int) ≤ (wideRecord.hi : Int)) ∧ (115 : Int) < (wideRecord.lo : Int) := by
  decide

theorem witness_PlacingANewVoice :
    let s := held27 0
    (s.scn.readiness[(7 : Fin 8)] ≠ .ready) ∧ s.scn.readiness[(0 : Fin 8)] = .ready ∧
      (∀ v : Fin 48, s.val.voices[v].state = .free ∨ s.val.voices[v].sect ≠ 0 ∨ s.val.voices[v].pitch ≠ 72) ∧
      s.soundingTotal + 2 ≤ 128 - s.fill ∧ (s.pairsOf 27).length < 16 ∧
      s.soundingIn 0 < s.scn.records[(0 : Fin 8)].polyphony ∧ s.val.voices[(1 : Fin 48)].state = .free ∧
      (∀ w : Fin 48, w < 1 → s.val.voices[w].state ≠ .free) ∧
      (let e : Entry := { report := .reversal .push, due := 0, order := 0 }
       let u := { s with evq := { s.evq with entries := List.replicate 126 e } }
       128 - u.fill < u.soundingTotal + 2) ∧
      (let u := { s with val := { s.val with held := [{ key := 27, side := .push, pairs := List.replicate 16 { voice := 0, layer := 0 } }] } }
       16 ≤ (u.pairsOf 27).length) := by decide +kernel

/-- Section 0 at its limit; the voice table with no FREE entry but a RELEASING one; and with 48 voices SOUNDING. -/
theorem witness_PlacingANewVoice_room :
    let s := held27 0
    let tight := { s with scn := { s.scn with records := s.scn.records.set 0 { hardRecord with polyphony := 1 } } }
    let full := fun st : VoiceState =>
      let fill := fun x : Voice => if x.state = VoiceState.free then { x with state := st, sect := 1 } else x
      ({ s with val := { s.val with voices := s.val.voices.map fill } } : State)
    (tight.soundingIn 0 = tight.scn.records[(0 : Fin 8)].polyphony ∧
      (endOldest 0 .stolen tight).val.voices[(0 : Fin 48)].state = .free) ∧
      ((full (.releasing 5)).soundingIn 0 ≠ (full (.releasing 5)).scn.records[(0 : Fin 8)].polyphony ∧
        (∀ v : Fin 48, (full (.releasing 5)).val.voices[v].state ≠ .free) ∧
        ∃ v : Fin 48, (full (.releasing 5)).val.voices[v].state ≠ .sounding) ∧
      ((full .sounding).soundingTotal + 2 ≤ 128 - (full .sounding).fill ∧
        ∀ v : Fin 48, (full .sounding).val.voices[v].state = .sounding) := by decide +kernel

theorem witness_PlacingOnAStandingVoice :
    let s := held27 0
    (s.scn.readiness[(0 : Fin 8)] = .ready ∧ s.val.voices[(0 : Fin 48)].state ≠ .free ∧
      s.val.voices[(0 : Fin 48)].sect = 0 ∧ s.val.voices[(0 : Fin 48)].pitch = 71 ∧
      ∀ w : Fin 48, s.val.voices[w].state ≠ .free → s.val.voices[w].sect = 0 → s.val.voices[w].pitch = 71 → w = 0) ∧
      (∃ q ∈ s.pairsOf 27, q.voice = 0) ∧ ((∀ q ∈ s.pairsOf 28, q.voice ≠ 0) ∧ (s.pairsOf 28).length < 16) ∧
      s.val.voices[(0 : Fin 48)].state = .sounding := by decide +kernel

theorem witness_PlacingOnAStandingVoice_releasing :
    let s := held27 0
    let u := { s with
      val := { s.val with voices := s.val.voices.set 0 { s.val.voices[0] with state := .releasing 5, holders := 0 }, held := [] } }
    (u.val.voices[(0 : Fin 48)].state ≠ .free ∧ u.val.voices[(0 : Fin 48)].state ≠ .sounding) ∧
      (∀ w : Fin 48, u.val.voices[w].state ≠ .free → u.val.voices[w].sect = 0 → u.val.voices[w].pitch = 71 → w = 0) ∧
      (u.pairsOf 27).length < 16 ∧ u.soundingTotal + 2 ≤ 128 - u.fill ∧
      u.soundingIn 0 < u.scn.records[(0 : Fin 8)].polyphony := by decide +kernel

theorem witness_PlacingOnAStandingVoice_full_list :
    let s := held27 0
    let u := { s with val := { s.val with held := [{ key := 27, side := .push, pairs := List.replicate 16 { voice := 1, layer := 0 } }] } }
    u.val.voices[(0 : Fin 48)].state = .sounding ∧ (∀ q ∈ u.pairsOf 27, q.voice ≠ 0) ∧ 16 ≤ (u.pairsOf 27).length := by
  decide +kernel

theorem witness_ReleasingAVoice :
    (held27 0).val.voices[(0 : Fin 48)].holders = 1 ∧ (held27 0).scn.records[(0 : Fin 8)].releaseHold = 0 ∧
      ({ hardRecord with releaseHold := 2000 } : SectionRecord).releaseHold ≠ 0 ∧
      2 ≤ ({ (held27 0).val.voices[(0 : Fin 48)] with holders := 2 } : Voice).holders := by decide +kernel

theorem witness_EndingTheOldestVoice :
    ∃ v : Fin 48, (held27 0).val.voices[v].state = .sounding ∧ (held27 0).val.voices[v].sect = 0 :=
  ⟨0, by decide +kernel⟩

theorem witness_ReleaseExpiryFreesTheVoice :
    let s := fun now : Tick =>
      { quiet now with
        val := { hardAllocator with
          voices := hardAllocator.voices.set 47 { state := .releasing 22500, sect := 1, pitch := 60, holders := 0, serial := 9 } } }
    ((s 22500).inReset = none ∧ (s 22500).val.voices[(47 : Fin 48)].state = .releasing 22500 ∧ (s 22500).reached 22500) ∧
      ¬ (s 22499).reached 22500 := by decide +kernel

theorem witness_ReversalKeepsKeysWithEqualSets :
    let s := held27 0
    let u := { s with imap := s.imap.set 27 { s.imap[27] with pull := [71] } }
    u.reg.slot = none ∧ (∀ l : Fin 8, u.reg.active[l].reattack = false) ∧
      ∀ h ∈ u.val.held, u.pitchSet h.key h.side = u.pitchSet h.key .pull := by decide +kernel

/-- A reversal with a waiting NEXT_REVERSAL change, with REVOICE set and clear; a key with unequal sets; and a voice to re-articulate, admitted
and refused. -/
theorem witness_ReversalKeepsKeysWithEqualSets_carried :
    let s := held27 0
    let c : Change := { preset := 3, trigger := .reversal, origin := .request }
    let waiting := fun b : Bool =>
      { s with reg := { s.reg with slot := some c, store := s.reg.store.set 3 { s.reg.store[3] with revoice := b } } }
    ((waiting true).reg.slot = some c ∧ (waiting true).reg.store[c.preset].revoice = true ∧
      (waiting false).reg.store[c.preset].revoice = false) ∧
      (s.val.held.find? (fun y => y.key == 27) = some { key := 27, side := .push, pairs := [{ voice := 0, layer := 0 }] } ∧
        s.pitchSet 27 .push ≠ s.pitchSet 27 .pull ∧ s.pitchSet 27 .push = s.pitchSet 27 .push) ∧
      (let u := { s with reg := { s.reg with active := s.reg.active.set 0 { trebleTo 0 with reattack := true } } }
       (u.reg.active[(0 : Fin 8)].reattack = true ∧ u.val.voices[(0 : Fin 48)].state = .sounding ∧
         u.scn.records[(0 : Fin 8)].lo ≤ 71 ∧ 71 ≤ u.scn.records[(0 : Fin 8)].hi ∧ u.evq.entries = []) ∧
         u.soundingTotal + 2 ≤ 128 - u.fill ∧
         (let e : Entry := { report := .reversal .push, due := 0, order := 0 }
          let w := { u with evq := { u.evq with entries := List.replicate 126 e } }
          128 - w.fill < w.soundingTotal + 2)) := by decide +kernel

theorem witness_ReceiverTakesBytes :
    ((quiet 0).inReset = none ∧ (quiet 0).lnk.receiver = .hunting) ∧
      (frameIsComplete [1, 7] = false ∧ (([1, 7] : List Byte) ++ [49]).length = 3 ∧ 48 < (49#8).toNat ∧
        (∀ x ∈ ([1, 7] : List Byte) ++ [49], x ≠ 0xD5) ∧ ¬ 48 < (48#8).toNat) ∧
      (let s := quiet 0
       let u := { s with lnk := { s.lnk with receiver := .assembling [1, 0xD5] 0 } }
       u.lnk.receiver = .assembling [1, 0xD5] 0 ∧ frameIsComplete [1, 0xD5] = false) ∧
      (21 ≤ ((quiet 21).tick - 0).toInt ∧ ((quiet 20).tick - 0).toInt < 21) := by decide +kernel

theorem witness_CompleteFrameIsQueuedOrDropped :
    (let s := quiet 0
     let f : Frame := { kind := 0x3F, tag := 0, payload := [] }
     let u := { s with lnk := { s.lnk with receiver := .assembling f.line.tail 0, inbound := [f, f, f] } }
     u.inReset = none ∧ f.payload.length ≤ 48 ∧ u.lnk.receiver = .assembling f.line.tail 0 ∧ f.kind.toNat ≤ 0x3F ∧
       u.lnk.inbound.length < 4) ∧
      (let f : Frame := { kind := 0x40, tag := 0, payload := [] }
       let s := quiet 0
       let u := { s with lnk := { s.lnk with receiver := .assembling (f.body ++ [0, 0]) 0 } }
       0x3F < f.kind.toNat ∧ byte2 (checkOf f.body).toNat ≠ [0, 0] ∧ (∀ x ∈ f.body ++ [0, 0], x ≠ 0xD5) ∧
         u.lnk.receiver = .assembling (f.body ++ [0, 0]) 0) := by
  decide +kernel

theorem witness_UnknownKindOrWrongLengthIsRefused :
    ((waits 0x15 [] (quiet 0)).offers 0x15 7 [] [] ∧ 0x14 < (0x15#8).toNat ∧ (0x15#8).toNat ≤ 0x3F) ∧
      ((waits 0x05 [1] (quiet 0)).offers 0x05 7 [1] [] ∧ ([1] : List Byte).length ≠ 2) ∧
      ((waits 0x06 [0, 5] (quiet 0)).offers 0x06 7 [0, 5] [] ∧ 4 < (5#8).toNat) ∧
      ((waits 0x06 [0, 4] (quiet 0)).offers 0x06 7 [0, 4] [] ∧ 1 ≤ (4#8).toNat ∧ (4#8).toNat ≤ 4 ∧
        ([] : List Byte).length ≠ 11 * (4#8).toNat) := by
  exact ⟨⟨waits_offers _ _ _ rfl rfl, by decide, by decide⟩, ⟨waits_offers _ _ _ rfl rfl, by decide⟩,
    ⟨waits_offers _ _ _ rfl rfl, by decide⟩, ⟨waits_offers _ _ _ rfl rfl, by decide, by decide, by decide⟩⟩

theorem witness_TransmitterTakesReplyThenDueReport :
    (State.reset.inReset = none ∧ State.reset.lnk.transmitter = .idle ∧ State.reset.lnk.slot = none ∧
      State.reset.evq.entries = [{ report := .started .power, due := 0, order := 0 }] ∧ State.reset.reached 0) ∧
      (replyOf (after .status (waits 0x12 [] (quiet 0)))).isSome = true ∧
      ¬ (quiet 99).reached 100 ∧ (quiet 0).evq.entries = [] ∧
      (after .transmit State.reset).lnk.transmitter ≠ .idle := by decide +kernel

theorem witness_ClearFlagsClearsTheNamedFlags : (waits 0x13 [0xFF] (quiet 0)).offers 0x13 7 [0xFF] [] := by
  exact waits_offers _ _ _ rfl rfl

theorem witness_FirstOccurrenceIsReported :
    ((∀ bit : Fin 8, (quiet 0).stu.sticky.getLsbD bit = false) ∧ (quiet 0).soundingTotal + 1 ≤ 128 - (quiet 0).fill) ∧
      ((0xFF : Byte).getLsbD 7 = true ∧ (0xFF : Byte).getLsbD 0 = true) ∧
      (let s := quiet 0
       let u := { s with evq := { s.evq with entries := List.replicate 128 { report := .reversal .push, due := 0, order := 0 } } }
       128 - u.fill < u.soundingTotal + 1) := by decide +kernel

theorem witness_RecordsSurviveTheLink :
    (KeyEntryLegal edgeEntry ∧ RecordCarried wideRecord ∧ LayerLegal edgeLayer) ∧ (-32768 : Int) ≤ -32768 ∧ (-32768 : Int) ≤ 32767 := by
  decide +kernel

/-- R93: a cut part, in which the line stays high. -/
def cutPart : State := { quiet 0 with scn := hardSections true }

/-- A state with one command waiting. -/
def commanded (i : Instr) (s : State) : State := { s with pending := [i] }

theorem witness_EveryStepKeepsTheCutSilent :
    let s := commanded (.clickLineSample true true) cutPart
    SilentInCut s ∧ s.scn.cut = true ∧ ∃ t, step s = .next t := by
  exact ⟨by decide +kernel, rfl, _, rfl⟩

theorem witness_EveryStepKeepsTheTables :
    let s := commanded .transmit (held27 0)
    TablesLawful s ∧ s.val.held ≠ [] ∧ ∃ t, step s = .next t := by
  exact ⟨by decide +kernel, by decide +kernel, _, rfl⟩

theorem witness_EveryStepKeepsTheVoices :
    let s := commanded .transmit (held27 0)
    TablesLawful s ∧ VoicesLawful s ∧ s.val.voices[(0 : Fin 48)].state = .sounding ∧ ∃ t, step s = .next t := by
  exact ⟨by decide +kernel, by decide +kernel, by decide +kernel, _, rfl⟩

theorem witness_EveryStepKeepsTheLevels :
    let s := commanded (.sample 2047) (held27 5)
    LevelsInRange s ∧ ∃ t, step s = .next t := by
  exact ⟨by decide +kernel, _, rfl⟩

theorem witness_EveryStepKeepsTheRanges :
    let s := commanded (.sample 2047) (held27 5)
    BellowsLegal s ∧ ClockLegal s ∧ HandlerLegal s ∧ ∃ t, step s = .next t := by
  refine ⟨by decide +kernel, by decide +kernel, ?_, _, rfl⟩
  refine ⟨?_, ?_, ?_⟩ <;> simp [commanded, held27, ready0, quiet, State.reset, State.released, hardLink, hardBellows]

theorem witness_EveryStepKeepsDynamicsSingle :
    let s := quiet 0
    let u := commanded .transmit
      { s with evq := { s.evq with entries := [{ report := .dynamic 3 64, due := 0, order := 0 }] } }
    DynamicsSingle u ∧ u.holdsDynamic 3 = true ∧ ∃ t, step u = .next t := by
  exact ⟨by decide +kernel, by decide +kernel, _, rfl⟩

/-- Entries that do not stand in creation order: a section report held back, and a general one made behind it. -/
theorem witness_EveryStepKeepsDynamicsSingle_ordered :
    let s := quiet 1000
    let u := commanded .transmit
      { s with
        scn := { s.scn with records := s.scn.records.set 3 { hardRecord with alignment := 400 } }
        evq :=
          { entries :=
              [{ report := .allOff .line, due := 1000, order := 0 }, { report := .reversal .pull, due := 1000, order := 2 },
               { report := .noteOn 3 60 1 .press, due := 1400, order := 1 }]
            lastDue := s.evq.lastDue.set 3 1400
            ahead := s.evq.ahead.set 3 true
            made := 3 } }
    QueueOrdered u ∧ DuesNear u ∧
      ((∀ e ∈ u.evq.entries, e.order < u.evq.made) ∧ (∀ n : Fin 8, u.scn.records[n].alignment ≤ 400) ∧
        (∀ n : Fin 8, u.evq.ahead[n] = true →
          0 < (u.evq.lastDue[n] - u.tick).toInt ∧ (u.evq.lastDue[n] - u.tick).toInt ≤ 400)) ∧
      (∀ e ∈ u.evq.entries, ∀ n : Fin 8, e.report.section? = some n →
        0 ≤ ((if u.evq.ahead[n] = true then u.evq.lastDue[n] else u.tick) - e.due).toInt) ∧
      ∃ t, step u = .next t := by
  exact ⟨by decide +kernel, by decide +kernel, by decide +kernel, by decide +kernel, _, rfl⟩

end Sys2Proof.Tests
end

section
/-! What the voice table operations keep of the two tables (R118 to R121, R126 to R133). -/

namespace Sys2Proof.Machine

/-! ## Held keys and their directions

No operation on voices adds or takes away a held key or changes its attack direction. -/

/-- The held keys with their attack directions, without the voice lists. -/
def State.heldSides (s : State) : List (Fin 192 × Side) := s.val.held.map fun h => (h.key, h.side)

/-- The same keys are held, each in the same direction. -/
def SidesKept (s t : State) : Prop := t.heldSides = s.heldSides

theorem SidesKept.refl (s : State) : SidesKept s s := rfl

theorem SidesKept.trans {s t u : State} (h : SidesKept s t) (k : SidesKept t u) : SidesKept s u :=
  Eq.trans k h

theorem SidesKept.of_held {s t : State} (h : t.val.held = s.val.held) : SidesKept s t := by
  rw [SidesKept, State.heldSides, h, ← State.heldSides]

theorem State.heldKeys_eq (s : State) : s.heldKeys = s.heldSides.map Prod.fst := by
  simp [State.heldKeys, State.heldSides]

theorem SidesKept.heldKeys {s t : State} (h : SidesKept s t) : t.heldKeys = s.heldKeys := by
  rw [State.heldKeys_eq, State.heldKeys_eq, h]

/-- Changing the voice lists keeps keys and directions. -/
theorem setHeld_pairs_sidesKept (f : HeldKey → List Pair) (s : State) :
    SidesKept s (setHeld (s.val.held.map fun h => { h with pairs := f h }) s) := by
  simp [SidesKept, State.heldSides]

theorem changePairs_sidesKept (k : Fin 192) (f : List Pair → List Pair) (s : State) :
    SidesKept s (changePairs k f s) := by
  have : (fun h : HeldKey => if h.key = k then { h with pairs := f h.pairs } else h) =
      fun h => { h with pairs := if h.key = k then f h.pairs else h.pairs } := by
    funext h; split <;> rfl
  rw [changePairs, this]
  exact setHeld_pairs_sidesKept (fun h => if h.key = k then f h.pairs else h.pairs) s

theorem removeFromLists_sidesKept (v : Fin 48) (s : State) : SidesKept s (removeFromLists v s) :=
  setHeld_pairs_sidesKept (fun h => h.pairs.filter fun p => p.voice != v) s

theorem endVoice_sidesKept (r : NoteOffReason) (v : Fin 48) (s : State) : SidesKept s (endVoice r v s) :=
  removeFromLists_sidesKept v (pushSection s.val.voices[v].sect _ s)

theorem endOldest_sidesKept (n : Fin 8) (r : NoteOffReason) (s : State) : SidesKept s (endOldest n r s) := by
  unfold endOldest; split
  · exact endVoice_sidesKept r _ s
  · exact .refl s

theorem makeRoom_sidesKept (n : Fin 8) (s : State) : SidesKept s (makeRoom n s) := by
  unfold makeRoom; split
  · exact endOldest_sidesKept n _ s
  · exact .refl s

/-- A voice released leaves the held-key table as it is: its caller has taken the pair out (R133). -/
@[simp] theorem releaseVoice_held (r : NoteOffReason) (v : Fin 48) (s : State) :
    (releaseVoice r v s).val.held = s.val.held := by
  unfold releaseVoice; dsimp only; split <;> rfl

@[simp] theorem releasePairs_held (r : NoteOffReason) (ps : List Pair) (s : State) :
    (releasePairs r ps s).val.held = s.val.held :=
  foldl_keeps (R := fun s t => t.val.held = s.val.held) (fun _ => rfl) (fun _ _ _ h k => k.trans h)
    (fun s (p : Pair) => releaseVoice_held r p.voice s) ps s

theorem releaseKeyVoices_sidesKept (r : NoteOffReason) (k : Fin 192) (s : State) :
    SidesKept s (releaseKeyVoices r k s) :=
  .trans (changePairs_sidesKept k (fun _ => []) s) (.of_held (releasePairs_held ..))

@[simp] theorem raiseFlag_val (f : StickyFlag) (s : State) : (raiseFlag f s).val = s.val := by
  have h := raiseFlag_noticesOnly f s
  rw [NoticesOnly] at h; rw [h]; rfl

theorem dropAttack_sidesKept (s : State) : SidesKept s (dropAttack s) := .of_held (by simp [dropAttack])

theorem sound_sidesKept (k : Fin 192) (l n : Fin 8) (t : Nat) (c : NoteOnCause) (v : Fin 48) (s : State) :
    SidesKept s (sound k l n t c v s) :=
  .trans (changePairs_sidesKept k (fun ps => ps ++ [⟨v, l⟩]) s) (.of_held rfl)

theorem shareVoice_sidesKept (k : Fin 192) (l : Fin 8) (v : Fin 48) (s : State) : SidesKept s (shareVoice k l v s) :=
  .trans (changePairs_sidesKept k (fun ps => ps ++ [⟨v, l⟩]) s) (.of_held rfl)

theorem retrigger_sidesKept (k : Fin 192) (l n : Fin 8) (t : Nat) (v : Fin 48) (s : State) :
    SidesKept s (retrigger k l n t v s) := by
  unfold retrigger; split
  · exact .trans (makeRoom_sidesKept n s) (sound_sidesKept ..)
  · exact dropAttack_sidesKept s

theorem newVoice_sidesKept (k : Fin 192) (l n : Fin 8) (t : Nat) (c : NoteOnCause) (s : State) :
    SidesKept s (newVoice k l n t c s) := by
  unfold newVoice; split
  · dsimp only; split
    · exact .trans (makeRoom_sidesKept n s) (sound_sidesKept ..)
    · exact .trans (makeRoom_sidesKept n s) (dropAttack_sidesKept _)
  · exact dropAttack_sidesKept s

/-- Everything that placing a pitch can do: nothing, a dropped attack, a shared voice, a retriggered voice or a new one, each
under the conditions it is chosen for (R125 to R128). -/
theorem placePitch_cases (k : Fin 192) (l n : Fin 8) (c : NoteOnCause) (t : Nat) (s : State) :
    placePitch k l n c t s = s ∨ placePitch k l n c t s = dropAttack s ∨
      ((s.pairsOf k).length < listSize ∧
        ((∃ v, s.lookup n t = some v ∧ listHolds (s.pairsOf k) v = false ∧ s.val.voices[v].isSounding = true ∧
            placePitch k l n c t s = shareVoice k l v s) ∨
          (∃ v, s.lookup n t = some v ∧ s.val.voices[v].isSounding = false ∧
            placePitch k l n c t s = retrigger k l n t v s) ∨
          placePitch k l n c t s = newVoice k l n t c s)) := by
  unfold placePitch
  split
  · exact .inl rfl
  split
  next v hv =>
    cases hh : listHolds (s.pairsOf k) v
    · by_cases hl : listSize ≤ (s.pairsOf k).length
      · exact .inr (.inl (by simp [hl]))
      · cases hs : s.val.voices[v].isSounding
        · exact .inr (.inr ⟨by omega, .inr (.inl ⟨v, hv, hs, by simp [hl]⟩)⟩)
        · exact .inr (.inr ⟨by omega, .inl ⟨v, hv, hh, hs, by simp [hl]⟩⟩)
    · exact .inl (by simp)
  next =>
    by_cases hl : listSize ≤ (s.pairsOf k).length
    · exact .inr (.inl (by simp [hl]))
    · exact .inr (.inr ⟨by omega, .inr (.inr (by simp [hl]))⟩)

theorem placePitch_sidesKept (k : Fin 192) (l n : Fin 8) (c : NoteOnCause) (t : Nat) (s : State) :
    SidesKept s (placePitch k l n c t s) := by
  rcases placePitch_cases k l n c t s with h | h | ⟨_, ⟨v, _, _, _, h⟩ | ⟨v, _, _, h⟩ | h⟩ <;> rw [h]
  · exact .refl s
  · exact dropAttack_sidesKept s
  · exact shareVoice_sidesKept k l v s
  · exact retrigger_sidesKept k l n t v s
  · exact newVoice_sidesKept k l n t c s

/-- A layer places its ranged pitch or does nothing (R98, R124). -/
theorem placeLayer_cases (k : Fin 192) (c : KeyClass) (cause : NoteOnCause) (p : Nat) (l : Fin 8) (s : State) :
    placeLayer k c cause p l s = s ∨ ∃ n t, placeLayer k c cause p l s = placePitch k l n cause t s := by
  unfold placeLayer; dsimp only
  split
  · split
    · exact .inr ⟨_, _, rfl⟩
    · exact .inl rfl
  · exact .inl rfl

theorem placeLayer_sidesKept (k : Fin 192) (c : KeyClass) (cause : NoteOnCause) (p : Nat) (l : Fin 8) (s : State) :
    SidesKept s (placeLayer k c cause p l s) := by
  rcases placeLayer_cases k c cause p l s with h | ⟨n, t, h⟩ <;> rw [h]
  · exact .refl s
  · exact placePitch_sidesKept k l n cause t s

theorem placeAll_sidesKept (k : Fin 192) (c : KeyClass) (cause : NoteOnCause) (p : Nat) (s : State) :
    SidesKept s (placeAll k c cause p s) :=
  foldl_keeps SidesKept.refl (fun _ _ _ => .trans) (fun s l => placeLayer_sidesKept k c cause p l s) _ s

/-- An attack adds voices to lists; the held keys and their directions stay (R123). -/
theorem attack_sidesKept (k : Fin 192) (d : Side) (cause : NoteOnCause) (s : State) :
    SidesKept s (attack k d cause s) :=
  foldl_keeps SidesKept.refl (fun _ _ _ => .trans) (fun s p => placeAll_sidesKept k _ cause p s) _ s

/-! ## Held keys -/

@[simp] theorem setSide_heldKeys (k : Fin 192) (d : Side) (s : State) : (setSide k d s).heldKeys = s.heldKeys := by
  simp only [State.heldKeys, setSide, setHeld_held, List.map_map]
  refine List.map_congr_left fun h _ => ?_
  simp only [Function.comp]; split <;> rfl

@[simp] theorem reattack_heldKeys (r : NoteOffReason) (c : NoteOnCause) (d : Side) (k : Fin 192) (s : State) :
    (reattack r c d k s).heldKeys = s.heldKeys := by
  rw [reattack, setSide_heldKeys, (attack_sidesKept ..).heldKeys, (releaseKeyVoices_sidesKept ..).heldKeys]

@[simp] theorem revoice_heldKeys (d : Side) (s : State) : (revoice d s).heldKeys = s.heldKeys :=
  foldl_keeps (R := fun s t => t.heldKeys = s.heldKeys) (fun _ => rfl) (fun _ _ _ h k => k.trans h)
    (fun s k => reattack_heldKeys _ _ d k s) _ s

end Sys2Proof.Machine
end

section
/-! ## The laws of the tables while work on them is under way -/

namespace Sys2Proof.Machine

/-! ### Entries of the held-key table -/

section
variable {s : State} {k : Fin 192}

theorem mem_heldKeys : k ∈ s.heldKeys ↔ ∃ h ∈ s.val.held, h.key = k := by
  simp [State.heldKeys]

theorem heldEntry_eq_none : s.heldEntry k = none ↔ k ∉ s.heldKeys := by
  simp [State.heldEntry, mem_heldKeys]

theorem heldEntry_some {h : HeldKey} (he : s.heldEntry k = some h) : h ∈ s.val.held ∧ h.key = k :=
  ⟨List.mem_of_find?_eq_some he, by simpa using List.find?_some he⟩

/-- With one entry for a key, the search for the key finds that entry. -/
theorem heldEntry_of_mem (hs : s.heldKeys.Nodup) {h : HeldKey} (hh : h ∈ s.val.held) : s.heldEntry h.key = some h := by
  cases he : s.heldEntry h.key with
  | none => exact absurd (mem_heldKeys.mpr ⟨h, hh, rfl⟩) (heldEntry_eq_none.mp he)
  | some x =>
    obtain ⟨hx, hk⟩ := heldEntry_some he
    rw [List.inj_on_of_nodup_map hs hx hh hk]

theorem pairsOf_of_mem (hs : s.heldKeys.Nodup) {h : HeldKey} (hh : h ∈ s.val.held) : s.pairsOf h.key = h.pairs := by
  simp [State.pairsOf, heldEntry_of_mem hs hh]

/-- The entry of a held key, with the entries of the other keys around it. -/
theorem exists_held_split (hs : s.heldKeys.Nodup) (hk : k ∈ s.heldKeys) :
    ∃ l₁ h l₂, s.val.held = l₁ ++ h :: l₂ ∧ h.key = k ∧ s.pairsOf k = h.pairs ∧
      (∀ x ∈ l₁, x.key ≠ k) ∧ ∀ x ∈ l₂, x.key ≠ k := by
  obtain ⟨h, hh, rfl⟩ := mem_heldKeys.mp hk
  obtain ⟨l₁, l₂, hl⟩ := List.append_of_mem hh
  rw [State.heldKeys, hl, List.map_append, List.map_cons, List.nodup_append, List.nodup_cons] at hs
  obtain ⟨_, ⟨hn, _⟩, hd⟩ := hs
  refine ⟨l₁, h, l₂, hl, rfl, pairsOf_of_mem ?_ hh, ?_, ?_⟩
  · rw [State.heldKeys, hl, List.map_append, List.map_cons, List.nodup_append, List.nodup_cons]
    exact ⟨‹_›, ⟨hn, ‹_›⟩, hd⟩
  · exact fun x hx => hd _ (List.mem_map_of_mem hx) _ (by simp)
  · exact fun x hx e => hn (e ▸ List.mem_map_of_mem hx)

end

/-! ### Listings -/

/-- How often a voice stands in a list of pairs. -/
def owed (ps : List Pair) (v : Fin 48) : Nat := ps.countP fun p => p.voice == v

@[simp] theorem owed_nil (v : Fin 48) : owed [] v = 0 := rfl

theorem owed_cons (p : Pair) (ps : List Pair) (v : Fin 48) :
    owed (p :: ps) v = owed ps v + if p.voice = v then 1 else 0 := by
  simp [owed, List.countP_cons]

theorem listHolds_iff {ps : List Pair} {v : Fin 48} : listHolds ps v = true ↔ v ∈ ps.map Pair.voice := by
  simp [listHolds]

/-- A list that names no voice twice holds a voice once or not at all. -/
theorem owed_eq_of_nodup {ps : List Pair} (h : (ps.map Pair.voice).Nodup) (v : Fin 48) :
    owed ps v = if listHolds ps v then 1 else 0 := by
  have : owed ps v = (ps.map Pair.voice).count v := by
    simp [owed, List.count, List.countP_map, Function.comp_def]
  rw [this, h.count]
  simp only [listHolds_iff]

/-- A voice that some key's list holds is listed. -/
theorem listings_pos_of_pairsOf {s : State} {k : Fin 192} {v : Fin 48} (h : listHolds (s.pairsOf k) v = true) :
    0 < s.listings v := by
  unfold State.pairsOf at h
  cases he : s.heldEntry k with
  | none => rw [he] at h; cases h
  | some x =>
    rw [he] at h
    exact List.countP_pos_iff.mpr ⟨x, (heldEntry_some he).1, h⟩

/-- Changing one key's list changes the listings by what that list held and holds. -/
theorem changePairs_listings {s : State} {k : Fin 192} (hs : s.heldKeys.Nodup) (hk : k ∈ s.heldKeys)
    (f : List Pair → List Pair) (v : Fin 48) :
    (changePairs k f s).listings v + (if listHolds (s.pairsOf k) v then 1 else 0) =
      s.listings v + if listHolds (f (s.pairsOf k)) v then 1 else 0 := by
  obtain ⟨l₁, h, l₂, hl, rfl, hp, h₁, h₂⟩ := exists_held_split hs hk
  have other : ∀ l : List HeldKey, (∀ x ∈ l, x.key ≠ h.key) →
      l.map (fun x => if x.key = h.key then { x with pairs := f x.pairs } else x) = l := fun l hl =>
    (List.map_congr_left (g := id) fun x hx => by simp [hl x hx]).trans (List.map_id l)
  simp only [State.listings, changePairs, setHeld_held, hl, hp, List.map_append, List.map_cons, other l₁ h₁, other l₂ h₂,
    List.countP_append, List.countP_cons, if_true]
  omega

/-- A voice taken off every list is listed nowhere, and the other listings stand. -/
theorem removeFromLists_listings (v w : Fin 48) (s : State) :
    (removeFromLists v s).listings w = if v = w then 0 else s.listings w := by
  simp only [State.listings, removeFromLists, setHeld_held, List.countP_map]
  split
  next h => exact List.countP_eq_zero.mpr fun x _ => by simp [listHolds, h]
  next h =>
    refine List.countP_congr fun x _ => ?_
    have : ∀ p : Pair, (p.voice != v && p.voice == w) = (p.voice == w) := fun p => by
      by_cases hp : p.voice = w <;> simp [hp, Ne.symm h]
    simp [listHolds, List.any_filter, this]

/-! ### SOUNDING voices -/

/-- A voice replaced changes the number of SOUNDING voices by what it was and is. -/
theorem setVoice_soundingTotal (v : Fin 48) (x : Voice) (s : State) :
    (setVoice v x s).soundingTotal + (if s.val.voices[v].isSounding then 1 else 0) =
      s.soundingTotal + if x.isSounding then 1 else 0 := by
  have hv : v.val < s.val.voices.toList.length := by simp
  have hset := List.countP_set (p := Voice.isSounding) (a := x) hv
  have hpos : (if s.val.voices[v].isSounding then 1 else 0) ≤ s.val.voices.toList.countP Voice.isSounding := by
    split
    · exact List.countP_pos_iff.mpr ⟨s.val.voices[v], by simp, ‹_›⟩
    · exact Nat.zero_le _
  simp only [State.soundingTotal, setVoice, State.withVal_val, Fin.getElem_fin, Vector.toList_set, hset,
    Vector.getElem_toList] at hpos ⊢
  omega

theorem setVoice_soundingTotal_of_same {v : Fin 48} {x : Voice} {s : State}
    (hx : x.isSounding = s.val.voices[v].isSounding) : (setVoice v x s).soundingTotal = s.soundingTotal := by
  have := setVoice_soundingTotal v x s
  rw [hx] at this; omega

theorem setVoice_soundingTotal_of_ended {v : Fin 48} {x : Voice} {s : State} (hv : s.val.voices[v].isSounding = true)
    (hx : x.isSounding = false) : (setVoice v x s).soundingTotal + 1 = s.soundingTotal := by
  have := setVoice_soundingTotal v x s
  rw [hv, hx] at this; simpa using this

theorem setVoice_soundingTotal_of_begun {v : Fin 48} {x : Voice} {s : State} (hv : s.val.voices[v].isSounding = false)
    (hx : x.isSounding = true) : (setVoice v x s).soundingTotal = s.soundingTotal + 1 := by
  have := setVoice_soundingTotal v x s
  rw [hv, hx] at this; simpa using this

/-! ### The invariant -/

/-- The entry of a voice agrees with a number of holders: that is its holder count, and it is SOUNDING exactly when somebody holds it
(R118, R121). -/
def Voice.heldBy (n : Nat) (x : Voice) : Prop := x.holders = n ∧ (x.state = .sounding ↔ 0 < n)

theorem Voice.isSounding_iff {x : Voice} : x.isSounding = true ↔ x.state = .sounding := by
  simp [Voice.isSounding]

theorem Voice.heldBy.isSounding {n : Nat} {x : Voice} (h : x.heldBy n) : x.isSounding = true ↔ 0 < n :=
  isSounding_iff.trans h.2

@[simp] theorem Voice.freed_heldBy (x : Voice) : x.freed.heldBy 0 := by simp [Voice.heldBy, Voice.freed]

@[simp] theorem Voice.freed_isSounding (x : Voice) : x.freed.isSounding = false := rfl

theorem letGo_heldBy (hold : Nat) (now : Tick) (x : Voice) : (letGo hold now x).heldBy 0 := by
  unfold letGo; split <;> simp [Voice.heldBy, Voice.freed]

/-- A voice list that R120 allows: at most 16 pairs, no voice twice. -/
abbrev ListLegal (ps : List Pair) : Prop := ps.length ≤ 16 ∧ (ps.map Pair.voice).Nodup

/-- The laws of the tables while work on them is under way: a key of `late` may be held though it is UP, its release being still to
be routed (R5); the pairs of `ps` have left their key's list and their voices are still to be released (R132); and `room` entries
are free beyond the reserve, as an admission has found them (R153). -/
structure TablesOwing (late : List (Fin 192)) (ps : List Pair) (room : Nat) (s : State) : Prop where
  down : ∀ k ∈ s.heldKeys, s.ksc.filters[k].down = true ∨ k ∈ late
  sorted : s.heldKeys.Pairwise (· < ·)
  size : s.heldKeys.length ≤ 24
  lists : ∀ h ∈ s.val.held, ListLegal h.pairs
  holders : ∀ v : Fin 48, s.val.voices[v].heldBy (s.listings v + owed ps v)
  reserve : s.fill + s.soundingTotal + room ≤ queueSize

/-- With nothing under way these are the laws of the tables. -/
theorem tablesLawful_iff {s : State} : TablesLawful s ↔ TablesOwing [] [] 0 s := by
  constructor
  · rintro ⟨hdown, ⟨hsorted, hsize, hlists⟩, hholders, hreserve⟩
    refine ⟨fun k hk => ?_, hsorted, by simpa [State.heldKeys] using hsize, hlists, fun v => ?_, hreserve⟩
    · obtain ⟨h, hh, rfl⟩ := mem_heldKeys.mp hk
      exact .inl (hdown h hh)
    · exact hholders v
  · rintro ⟨hdown, hsorted, hsize, hlists, hholders, hreserve⟩
    refine ⟨fun h hh => ?_, ⟨hsorted, by simpa [State.heldKeys] using hsize, hlists⟩, hholders, hreserve⟩
    simpa using hdown h.key (mem_heldKeys.mpr ⟨h, hh, rfl⟩)

section
variable {late : List (Fin 192)} {ps : List Pair} {room : Nat} {s t : State}

theorem TablesOwing.nodup (h : TablesOwing late ps room s) : s.heldKeys.Nodup :=
  h.sorted.imp fun hlt => hlt.ne

theorem TablesOwing.pairs_legal (h : TablesOwing late ps room s) (k : Fin 192) : ListLegal (s.pairsOf k) := by
  unfold State.pairsOf
  cases he : s.heldEntry k with
  | none => simp [ListLegal]
  | some x => exact h.lists x (heldEntry_some he).1

/-- A voice is SOUNDING exactly when somebody holds it or it is still to be released. -/
theorem TablesOwing.sounding_iff (h : TablesOwing late ps room s) (v : Fin 48) :
    s.val.voices[v].isSounding = true ↔ 0 < s.listings v + owed ps v := (h.holders v).isSounding

/-- Work on voices keeps what is said of the keys. -/
theorem TablesOwing.of_keys {ps' : List Pair} {room' : Nat} (h : TablesOwing late ps room s) (hksc : t.ksc = s.ksc)
    (hkeys : t.heldKeys = s.heldKeys) (hlists : ∀ h ∈ t.val.held, ListLegal h.pairs)
    (hholders : ∀ v : Fin 48, t.val.voices[v].heldBy (t.listings v + owed ps' v))
    (hreserve : t.fill + t.soundingTotal + room' ≤ queueSize) : TablesOwing late ps' room' t where
  down := by rw [hksc, hkeys]; exact h.down
  sorted := hkeys ▸ h.sorted
  size := hkeys ▸ h.size
  lists := hlists
  holders := hholders
  reserve := hreserve

/-- A state with the same voices, keys and filters, and no more entries than there is room for. -/
theorem TablesOwing.of_val {room' : Nat} (h : TablesOwing late ps room s) (hksc : t.ksc = s.ksc) (hval : t.val = s.val)
    (hfill : t.fill + room' ≤ s.fill + room) : TablesOwing late ps room' t := by
  have hsound : t.soundingTotal = s.soundingTotal := by simp [State.soundingTotal, hval]
  have hlist : ∀ v, t.listings v = s.listings v := fun v => by simp [State.listings, hval]
  have := h.reserve
  refine h.of_keys hksc (by simp [State.heldKeys, hval]) (by rw [hval]; exact h.lists) (fun v => ?_) (by omega)
  rw [hval, hlist]; exact h.holders v

theorem TablesOwing.pushSection {n : Fin 8} {r : Report} (h : TablesOwing late ps (room + 1) s) :
    TablesOwing late ps room (pushSection n r s) :=
  h.of_val rfl rfl (by simp; omega)

theorem TablesOwing.offerGeneral (r : Report) (h : TablesOwing late ps 0 s) : TablesOwing late ps 0 (offerGeneral r s) := by
  rcases offerGeneral_cases r s with ⟨hroom, he⟩ | ⟨_, he⟩ <;> rw [he]
  · have : TablesOwing late ps 1 s := { h with reserve := by simp only [State.freeEntries] at hroom; omega }
    exact this.of_val rfl rfl (by simp)
  · exact h

/-- A flag raised takes at most the entry its Fault report is admitted to. -/
theorem TablesOwing.raiseFlag (f : StickyFlag) (h : TablesOwing late ps 0 s) : TablesOwing late ps 0 (raiseFlag f s) := by
  rcases raiseFlag_cases f s with ⟨_, he⟩ | ⟨_, he⟩ <;> rw [he]
  · exact h.of_val rfl rfl le_rfl
  · exact TablesOwing.offerGeneral _ (h.of_val rfl rfl le_rfl)

theorem TablesOwing.dropAttack (h : TablesOwing late ps 0 s) : TablesOwing late ps 0 (dropAttack s) := h.raiseFlag _

/-- What the admission of an attack finds: two entries beyond the reserve (R153). -/
theorem TablesOwing.admitted (h : TablesOwing late ps 0 s) (ha : s.admitsAttack = true) : TablesOwing late ps 2 s := by
  have : s.soundingTotal + 2 ≤ queueSize - s.fill := of_decide_eq_true ha
  exact { h with reserve := by omega }

theorem TablesOwing.weaken (h : TablesOwing late ps room s) : TablesOwing late ps 0 s :=
  { h with reserve := by have := h.reserve; omega }

end

end Sys2Proof.Machine
end

section
/-! ## What voice operations keep -/

namespace Sys2Proof.Machine

section
variable {late : List (Fin 192)} {ps : List Pair} {room : Nat} {s : State}

/-! ### Ending and releasing voices -/

/-- A pair taken from a list leaves it legal. -/
theorem ListLegal.filter {ps : List Pair} (p : Pair → Bool) (h : ListLegal ps) : ListLegal (ps.filter p) :=
  ⟨(List.length_filter_le p ps).trans h.1, h.2.sublist ((List.filter_sublist).map Pair.voice)⟩

theorem endVoice_get (r : NoteOffReason) (v w : Fin 48) (s : State) :
    (endVoice r v s).val.voices[w] = if v = w then s.val.voices[v].freed else s.val.voices[w] :=
  setVoice_get ..

theorem endVoice_listings (r : NoteOffReason) (v w : Fin 48) (s : State) :
    (endVoice r v s).listings w = if v = w then 0 else s.listings w :=
  removeFromLists_listings v w (pushSection s.val.voices[v].sect _ s)

/-- A SOUNDING voice ended frees the entry that its NoteOff takes: the reserve stands (R152). -/
theorem TablesOwing.endVoice {r : NoteOffReason} {v : Fin 48} (h : TablesOwing late [] room s)
    (hv : s.val.voices[v].isSounding = true) : TablesOwing late [] room (endVoice r v s) := by
  refine h.of_keys rfl (endVoice_sidesKept r v s).heldKeys ?_ (fun w => ?_) ?_
  · intro x hx
    obtain ⟨y, hy, rfl⟩ := List.mem_map.mp hx
    exact (h.lists y hy).filter _
  · rw [endVoice_get, endVoice_listings]
    by_cases hw : v = w
    · simp [hw]
    · simpa [hw] using h.holders w
  · have hsound : (Machine.endVoice r v s).soundingTotal + 1 = s.soundingTotal :=
      setVoice_soundingTotal_of_ended hv (Voice.freed_isSounding _)
    have hfill : (Machine.endVoice r v s).fill = s.fill + 1 :=
      pushSection_fill s.val.voices[v].sect (.noteOff _ s.val.voices[v].pitch r) s
    have := h.reserve
    omega

/-- Ending the oldest voice of a section ends a SOUNDING voice, or there is none. -/
theorem endOldest_cases (n : Fin 8) (r : NoteOffReason) (s : State) :
    endOldest n r s = s ∨ ∃ v, s.val.voices[v].isSounding = true ∧ endOldest n r s = endVoice r v s := by
  unfold endOldest
  split
  next v hv => exact .inr ⟨v, by have := (oldest_some hv).1; simp_all, rfl⟩
  · exact .inl rfl

/-- Making room ends at most one SOUNDING voice (R127, R128). -/
theorem makeRoom_cases (n : Fin 8) (s : State) :
    makeRoom n s = s ∨ ∃ v, s.val.voices[v].isSounding = true ∧ makeRoom n s = endVoice .stolen v s := by
  unfold makeRoom
  split
  · exact endOldest_cases n _ s
  · exact .inl rfl

theorem TablesOwing.endOldest {n : Fin 8} {r : NoteOffReason} (h : TablesOwing late [] room s) :
    TablesOwing late [] room (endOldest n r s) := by
  rcases endOldest_cases n r s with he | ⟨v, hv, he⟩ <;> rw [he]
  · exact h
  · exact h.endVoice hv

theorem TablesOwing.makeRoom {n : Fin 8} (h : TablesOwing late [] room s) : TablesOwing late [] room (makeRoom n s) := by
  rcases makeRoom_cases n s with he | ⟨v, hv, he⟩ <;> rw [he]
  · exact h
  · exact h.endVoice hv

/-- A voice that is not SOUNDING stands when room is made. -/
theorem makeRoom_get {n : Fin 8} {v : Fin 48} (hv : s.val.voices[v].isSounding = false) :
    (Machine.makeRoom n s).val.voices[v] = s.val.voices[v] := by
  rcases makeRoom_cases n s with he | ⟨w, hw, he⟩ <;> rw [he]
  rw [endVoice_get, if_neg]
  rintro rfl
  rw [hv] at hw; cases hw

/-- Making room lengthens no list. -/
theorem makeRoom_pairsOf_length (n : Fin 8) (k : Fin 192) (s : State) :
    ((Machine.makeRoom n s).pairsOf k).length ≤ (s.pairsOf k).length := by
  rcases makeRoom_cases n s with he | ⟨w, _, he⟩ <;> rw [he]
  have : (Machine.endVoice .stolen w s).pairsOf k = (s.pairsOf k).filter fun p => p.voice != w := by
    have hfind : (Machine.endVoice .stolen w s).heldEntry k =
        (s.heldEntry k).map fun h => { h with pairs := h.pairs.filter fun p => p.voice != w } :=
      List.find?_map ..
    simp only [State.pairsOf, hfind]
    cases s.heldEntry k <;> rfl
  rw [this]
  exact List.length_filter_le ..

/-- One voice entry replaced, with what is owed for that voice alone. -/
theorem TablesOwing.setVoice {ps' : List Pair} {room' : Nat} {v : Fin 48} {x : Voice} (h : TablesOwing late ps room s)
    (hx : x.heldBy (s.listings v + owed ps' v)) (hothers : ∀ w, v ≠ w → owed ps' w = owed ps w)
    (hroom : (setVoice v x s).soundingTotal + room' ≤ s.soundingTotal + room) :
    TablesOwing late ps' room' (setVoice v x s) := by
  refine h.of_keys rfl rfl h.lists (fun w => ?_) ?_
  · rw [setVoice_get]
    split
    next hw => exact hw ▸ hx
    next hw => exact hothers w hw ▸ h.holders w
  · have hfill : (Machine.setVoice v x s).fill = s.fill := rfl
    have := h.reserve
    omega

theorem releaseVoice_of_shared {r : NoteOffReason} {v : Fin 48} (h : 2 ≤ s.val.voices[v].holders) :
    releaseVoice r v s = Machine.setVoice v { s.val.voices[v] with holders := s.val.voices[v].holders - 1 } s := if_pos h

theorem releaseVoice_of_last {r : NoteOffReason} {v : Fin 48} (h : s.val.voices[v].holders < 2) :
    let x := s.val.voices[v]
    releaseVoice r v s =
      Machine.setVoice v (letGo s.scn.records[x.sect].releaseHold s.tick x)
        (pushSection x.sect (.noteOff x.sect x.pitch r) s) := if_neg (by omega)

/-- A voice released pays the pair its caller took from a list: with another holder left its count falls; with none left it lets go,
and its NoteOff takes the entry that stood in reserve for it (R133, R152). -/
theorem TablesOwing.releaseVoice {r : NoteOffReason} {p : Pair} (h : TablesOwing late (p :: ps) 0 s) :
    TablesOwing late ps 0 (releaseVoice r p.voice s) := by
  obtain ⟨hcount, hstate⟩ := h.holders p.voice
  have howed : owed (p :: ps) p.voice = owed ps p.voice + 1 := by rw [owed_cons, if_pos rfl]
  have hothers : ∀ w, p.voice ≠ w → owed ps w = owed (p :: ps) w := fun w hw => by rw [owed_cons, if_neg hw]; rfl
  have hsounds : s.val.voices[p.voice].isSounding = true := by rw [h.sounding_iff]; omega
  rcases Nat.lt_or_ge s.val.voices[p.voice].holders 2 with hlast | hshared
  · have hnone : s.listings p.voice + owed ps p.voice = 0 := by omega
    have hletGo : ∀ hold now, (letGo hold now s.val.voices[p.voice]).isSounding = false := fun hold now =>
      Bool.eq_false_iff.mpr fun e => absurd ((letGo_heldBy hold now _).isSounding.mp e) (by omega)
    have hset := h.setVoice (room' := 1) (hnone ▸ letGo_heldBy s.scn.records[s.val.voices[p.voice].sect].releaseHold s.tick _)
      hothers (setVoice_soundingTotal_of_ended hsounds (hletGo _ _)).le
    rw [releaseVoice_of_last hlast]
    exact hset.of_val rfl rfl (pushSection_fill _ _ s).le
  · rw [releaseVoice_of_shared hshared]
    refine h.setVoice ⟨?_, ?_⟩ hothers ?_
    · show s.val.voices[p.voice].holders - 1 = _
      omega
    · show s.val.voices[p.voice].state = .sounding ↔ _
      rw [hstate]; omega
    · rw [setVoice_soundingTotal_of_same]; rfl

theorem TablesOwing.releasePairs {r : NoteOffReason} (h : TablesOwing late ps 0 s) :
    TablesOwing late [] 0 (releasePairs r ps s) := by
  induction ps generalizing s with
  | nil => exact h
  | cons p ps ih => exact ih h.releaseVoice

/-! ### Changing a list -/

theorem changePairs_lists {k : Fin 192} {f : List Pair → List Pair} (h : TablesOwing late ps room s)
    (hf : ListLegal (f (s.pairsOf k))) : ∀ x ∈ (changePairs k f s).val.held, ListLegal x.pairs := by
  intro x hx
  obtain ⟨y, hy, rfl⟩ := List.mem_map.mp hx
  split
  next hk => exact (pairsOf_of_mem h.nodup hy) ▸ hk ▸ hf
  · exact h.lists y hy

/-- A pair added to a list pays for a voice that was counted before it was listed (R126 to R128). -/
theorem TablesOwing.addPair {k : Fin 192} {v : Fin 48} {l : Fin 8} (h : TablesOwing late (⟨v, l⟩ :: ps) room s)
    (hk : k ∈ s.heldKeys) (hsize : (s.pairsOf k).length < listSize) (hnew : listHolds (s.pairsOf k) v = false) :
    TablesOwing late ps room (addPair k v l s) := by
  obtain ⟨_, hnodup⟩ := h.pairs_legal k
  refine h.of_keys rfl (changePairs_sidesKept ..).heldKeys (changePairs_lists h ⟨?_, ?_⟩) (fun w => ?_) h.reserve
  · simpa [listSize] using hsize
  · rw [List.map_append, List.nodup_append]
    refine ⟨hnodup, by simp, fun a ha b hb e => ?_⟩
    have hav : a = v := e.trans (List.mem_singleton.mp hb)
    exact Bool.false_ne_true (hnew.symm.trans (listHolds_iff.mpr (hav ▸ ha)))
  · have hlist := changePairs_listings h.nodup hk (fun ps => ps ++ [⟨v, l⟩]) w
    have hw := h.holders w
    have : listHolds (s.pairsOf k ++ [⟨v, l⟩]) w = (listHolds (s.pairsOf k) w || v == w) := by simp [listHolds]
    rw [owed_cons] at hw
    rw [this] at hlist
    have heq : (Machine.addPair k v l s).listings w + owed ps w = s.listings w + (owed ps w + if v = w then 1 else 0) := by
      by_cases hvw : v = w
      · subst hvw
        simp only [hnew, beq_self_eq_true, Bool.or_true, if_true, Bool.false_eq_true, if_false] at hlist ⊢
        simp only [Machine.addPair]; omega
      · simp only [beq_eq_false_iff_ne.mpr hvw, Bool.or_false, if_neg hvw] at hlist ⊢
        simp only [Machine.addPair]; omega
    exact heq ▸ hw

/-- A list emptied leaves its voices to be released (R136, R138, R140). -/
theorem TablesOwing.emptyList {k : Fin 192} (h : TablesOwing late [] room s) (hk : k ∈ s.heldKeys) :
    TablesOwing late (s.pairsOf k) room (changePairs k (fun _ => []) s) := by
  refine h.of_keys rfl (changePairs_sidesKept ..).heldKeys (changePairs_lists h (by simp [ListLegal])) (fun w => ?_) h.reserve
  have hlist := changePairs_listings h.nodup hk (fun _ => []) w
  rw [owed_eq_of_nodup (h.pairs_legal k).2, hlist]
  exact h.holders w

end
end Sys2Proof.Machine
end

section
/-! ## What attacks, presses, releases and reversals keep -/

namespace Sys2Proof.Machine

section
variable {late : List (Fin 192)} {s : State} {k : Fin 192}

/-! ### Attack -/

/-- A voice that is not SOUNDING is listed nowhere (R121). -/
theorem TablesOwing.listings_eq_zero {room : Nat} {v : Fin 48} (h : TablesOwing late [] room s)
    (hv : s.val.voices[v].isSounding = false) : s.listings v = 0 := by
  have := h.sounding_iff v
  simp only [hv, Bool.false_eq_true, false_iff, owed_nil] at this
  omega

/-- A voice that begins to sound uses the two entries its admission found: one for its NoteOn, one reserved for its NoteOff. -/
theorem TablesOwing.sound {l n : Fin 8} {t : Nat} {c : NoteOnCause} {v : Fin 48} (h : TablesOwing late [] 2 s)
    (hk : k ∈ s.heldKeys) (hsize : (s.pairsOf k).length < listSize) (hv : s.val.voices[v].isSounding = false) :
    TablesOwing late [] 0 (sound k l n t c v s) := by
  have hnone := h.listings_eq_zero hv
  have hnew : listHolds (s.pairsOf k) v = false := by
    by_contra hh
    have := listings_pos_of_pairsOf (Bool.not_eq_false _ ▸ hh)
    omega
  have hset : TablesOwing late [⟨v, l⟩] 1 (Machine.setVoice v ⟨.sounding, n, t, 1, s.nextSerial⟩ s) := by
    refine h.setVoice ⟨by simp [hnone, owed_cons], by simp [owed_cons]⟩ (fun w hw => by simp [owed_cons, hw]) ?_
    rw [setVoice_soundingTotal_of_begun hv rfl]
  have hbump : TablesOwing late [⟨v, l⟩] 1 (bumpSerial (Machine.setVoice v ⟨.sounding, n, t, 1, s.nextSerial⟩ s)) :=
    hset.of_keys rfl rfl hset.lists hset.holders hset.reserve
  exact (hbump.addPair hk hsize hnew).pushSection

theorem TablesOwing.shareVoice {l : Fin 8} {v : Fin 48} (h : TablesOwing late [] 0 s) (hk : k ∈ s.heldKeys)
    (hsize : (s.pairsOf k).length < listSize) (hnew : listHolds (s.pairsOf k) v = false)
    (hv : s.val.voices[v].isSounding = true) : TablesOwing late [] 0 (shareVoice k l v s) := by
  obtain ⟨hcount, hstate⟩ := h.holders v
  rw [owed_nil, Nat.add_zero] at hcount hstate
  refine TablesOwing.addPair (h.setVoice ⟨?_, ?_⟩ (fun w hw => by simp [owed_cons, hw]) ?_) hk hsize hnew
  · show s.val.voices[v].holders + 1 = _
    rw [hcount, owed_cons, if_pos rfl, owed_nil]
  · show s.val.voices[v].state = .sounding ↔ _
    simp only [Voice.isSounding_iff.mp hv, owed_cons, if_true, true_iff]; omega
  · rw [setVoice_soundingTotal_of_same]; rfl

theorem TablesOwing.retrigger {l n : Fin 8} {t : Nat} {v : Fin 48} (h : TablesOwing late [] 0 s) (hk : k ∈ s.heldKeys)
    (hsize : (s.pairsOf k).length < listSize) (hv : s.val.voices[v].isSounding = false) :
    TablesOwing late [] 0 (retrigger k l n t v s) := by
  unfold Machine.retrigger
  split
  next ha =>
    refine (h.admitted ha).makeRoom.sound ?_ ((makeRoom_pairsOf_length n k s).trans_lt hsize) ?_
    · rwa [(makeRoom_sidesKept n s).heldKeys]
    · rwa [makeRoom_get hv]
  · exact h.dropAttack

/-- The entry found for a new voice is FREE or RELEASING (R128). -/
theorem roomFor_some {v : Fin 48} (h : s.roomFor = some v) : s.val.voices[v].isSounding = false := by
  unfold State.roomFor at h
  split at h
  next w hw =>
    cases h
    have := lowestFree_some hw
    simp_all [Voice.isFree, Voice.isSounding]
  · have := (oldest_some h).1
    simp_all [Voice.isReleasing]

theorem TablesOwing.newVoice {l n : Fin 8} {t : Nat} {c : NoteOnCause} (h : TablesOwing late [] 0 s) (hk : k ∈ s.heldKeys)
    (hsize : (s.pairsOf k).length < listSize) : TablesOwing late [] 0 (newVoice k l n t c s) := by
  unfold Machine.newVoice
  split
  next ha =>
    have hroomy := (h.admitted ha).makeRoom (n := n)
    dsimp only; split
    next v hv =>
      refine hroomy.sound ?_ ((makeRoom_pairsOf_length n k s).trans_lt hsize) (roomFor_some hv)
      rwa [(makeRoom_sidesKept n s).heldKeys]
    · exact hroomy.weaken.dropAttack
  · exact h.dropAttack

theorem TablesOwing.placePitch {l n : Fin 8} {c : NoteOnCause} {t : Nat} (h : TablesOwing late [] 0 s)
    (hk : k ∈ s.heldKeys) : TablesOwing late [] 0 (placePitch k l n c t s) := by
  rcases placePitch_cases k l n c t s with he | he | ⟨hsize, ⟨v, _, hnew, hv, he⟩ | ⟨v, _, hv, he⟩ | he⟩ <;> rw [he]
  · exact h
  · exact h.dropAttack
  · exact h.shareVoice hk hsize hnew hv
  · exact h.retrigger hk hsize hv
  · exact h.newVoice hk hsize

theorem TablesOwing.placeLayer {c : KeyClass} {cause : NoteOnCause} {p : Nat} {l : Fin 8} (h : TablesOwing late [] 0 s)
    (hk : k ∈ s.heldKeys) : TablesOwing late [] 0 (placeLayer k c cause p l s) := by
  rcases placeLayer_cases k c cause p l s with he | ⟨n, t, he⟩ <;> rw [he]
  · exact h
  · exact h.placePitch hk

/-- A walk whose every step keeps the held keys and, for a held key, the laws, keeps both. -/
theorem TablesOwing.foldl {α : Type} {f : State → α → State} (h : TablesOwing late [] 0 s) (hk : k ∈ s.heldKeys)
    (hkeys : ∀ s a, (f s a).heldKeys = s.heldKeys)
    (step : ∀ s a, TablesOwing late [] 0 s → k ∈ s.heldKeys → TablesOwing late [] 0 (f s a)) (l : List α) :
    TablesOwing late [] 0 (l.foldl f s) := by
  have : TablesOwing late [] 0 (l.foldl f s) ∧ k ∈ (l.foldl f s).heldKeys :=
    List.foldlRecOn l f (motive := fun t => TablesOwing late [] 0 t ∧ k ∈ t.heldKeys) ⟨h, hk⟩
      fun t ht a _ => ⟨step t a ht.1 ht.2, by rw [hkeys]; exact ht.2⟩
  exact this.1

theorem TablesOwing.placeAll {c : KeyClass} {cause : NoteOnCause} {p : Nat} (h : TablesOwing late [] 0 s)
    (hk : k ∈ s.heldKeys) : TablesOwing late [] 0 (placeAll k c cause p s) :=
  h.foldl hk (fun s l => (placeLayer_sidesKept k c cause p l s).heldKeys) (fun _ _ hs hks => hs.placeLayer hks) _

/-- The attack of a held key keeps the laws. -/
theorem TablesOwing.attack {d : Side} {c : NoteOnCause} (h : TablesOwing late [] 0 s) (hk : k ∈ s.heldKeys) :
    TablesOwing late [] 0 (attack k d c s) :=
  h.foldl hk (fun t p => (placeAll_sidesKept k _ c p t).heldKeys) (fun _ _ ht hkt => ht.placeAll hkt) _

/-! ### Re-attack and reversal -/

theorem TablesOwing.releaseKeyVoices {r : NoteOffReason} (h : TablesOwing late [] 0 s) (hk : k ∈ s.heldKeys) :
    TablesOwing late [] 0 (releaseKeyVoices r k s) := (h.emptyList hk).releasePairs

theorem TablesOwing.setSide {d : Side} {room : Nat} (h : TablesOwing late [] room s) :
    TablesOwing late [] room (setSide k d s) := by
  have hlists : ∀ (P : List Pair → Bool), (Machine.setSide k d s).val.held.countP (fun h => P h.pairs) =
      s.val.held.countP fun h => P h.pairs := fun P => by
    simp only [Machine.setSide, setHeld_held, List.countP_map]
    refine List.countP_congr fun x _ => ?_
    simp only [Function.comp]; split <;> rfl
  refine h.of_keys rfl (setSide_heldKeys k d s) ?_ (fun v => ?_) h.reserve
  · intro x hx
    obtain ⟨y, hy, rfl⟩ := List.mem_map.mp hx
    have := h.lists y hy
    split <;> exact this
  · have hv : (Machine.setSide k d s).listings v = s.listings v := hlists fun ps => listHolds ps v
    rw [hv]; exact h.holders v

theorem TablesOwing.reattack {r : NoteOffReason} {c : NoteOnCause} {d : Side} (h : TablesOwing late [] 0 s)
    (hk : k ∈ s.heldKeys) : TablesOwing late [] 0 (reattack r c d k s) :=
  ((h.releaseKeyVoices hk).attack (by rwa [(releaseKeyVoices_sidesKept ..).heldKeys])).setSide

/-- A walk over the held keys whose every step keeps them and, for a held key, the laws, keeps the laws. -/
theorem TablesOwing.foldl_heldKeys {f : State → Fin 192 → State} (h : TablesOwing late [] 0 s)
    (hkeys : ∀ s k, (f s k).heldKeys = s.heldKeys)
    (step : ∀ s k, TablesOwing late [] 0 s → k ∈ s.heldKeys → TablesOwing late [] 0 (f s k)) :
    TablesOwing late [] 0 (s.heldKeys.foldl f s) := by
  have : TablesOwing late [] 0 (s.heldKeys.foldl f s) ∧ (s.heldKeys.foldl f s).heldKeys = s.heldKeys :=
    List.foldlRecOn s.heldKeys f (motive := fun t => TablesOwing late [] 0 t ∧ t.heldKeys = s.heldKeys) ⟨h, rfl⟩
      fun t ht k hk => ⟨step t k ht.1 (ht.2 ▸ hk), (hkeys t k).trans ht.2⟩
  exact this.1

theorem TablesOwing.revoice {d : Side} (h : TablesOwing late [] 0 s) : TablesOwing late [] 0 (revoice d s) :=
  h.foldl_heldKeys (fun s k => reattack_heldKeys _ _ d k s) fun _ _ hs hk => hs.reattack hk

/-- A re-articulation puts its two admitted reports in the queue; who holds the voice stands (R137). -/
theorem TablesOwing.rearticulate {p : Pair} (h : TablesOwing late [] 2 s) : TablesOwing late [] 0 (rearticulate p s) := by
  have hset : TablesOwing late [] 2
      (Machine.setVoice p.voice { s.val.voices[p.voice] with serial := s.nextSerial } s) := by
    refine h.setVoice (h.holders p.voice) (fun _ _ => rfl) ?_
    rw [setVoice_soundingTotal_of_same]; rfl
  refine hset.of_keys rfl rfl hset.lists hset.holders ?_
  have hfill : (Machine.rearticulate p s).fill = s.fill + 2 := by
    show (Machine.pushSection _ _ (Machine.pushSection _ _ s)).fill = _
    simp
  have hsound : (Machine.rearticulate p s).soundingTotal =
      (Machine.setVoice p.voice { s.val.voices[p.voice] with serial := s.nextSerial } s).soundingTotal := rfl
  have hsame : (Machine.setVoice p.voice { s.val.voices[p.voice] with serial := s.nextSerial } s).fill = s.fill := rfl
  have := hset.reserve
  omega

theorem TablesOwing.carryPair {start : Nat} {p : Pair} (h : TablesOwing late [] 0 s) :
    TablesOwing late [] 0 (carryPair start p s) := by
  unfold Machine.carryPair
  split
  · split
    next ha => exact (h.admitted ha).rearticulate
    · exact h.dropAttack
  · exact h

theorem carryPair_held (start : Nat) (p : Pair) (s : State) : (carryPair start p s).val.held = s.val.held := by
  unfold carryPair
  split
  · split
    · rfl
    · simp [dropAttack]
  · rfl

theorem carryPairs_held (start : Nat) (ps : List Pair) (s : State) :
    (ps.foldl (fun s p => carryPair start p s) s).val.held = s.val.held :=
  foldl_keeps (R := fun s t => t.val.held = s.val.held) (fun _ => rfl) (fun _ _ _ h k => k.trans h)
    (fun s p => carryPair_held start p s) ps s

@[simp] theorem carryKey_heldKeys (start : Nat) (d : Side) (k : Fin 192) (s : State) :
    (carryKey start d k s).heldKeys = s.heldKeys := by
  unfold carryKey
  split
  · rfl
  · split
    · rw [setSide_heldKeys, (SidesKept.of_held (carryPairs_held ..)).heldKeys]
    · exact reattack_heldKeys ..

theorem TablesOwing.carryKey {start : Nat} {d : Side} (h : TablesOwing late [] 0 s) (hk : k ∈ s.heldKeys) :
    TablesOwing late [] 0 (carryKey start d k s) := by
  unfold Machine.carryKey
  split
  · exact h
  · split
    · exact (List.foldlRecOn _ _ h fun t ht p _ => ht.carryPair).setSide
    · exact h.reattack hk

theorem TablesOwing.carryAll {d : Side} (h : TablesOwing late [] 0 s) : TablesOwing late [] 0 (carryAll d s) :=
  h.foldl_heldKeys (fun t k => carryKey_heldKeys s.evq.made d k t) fun _ _ ht hk => ht.carryKey hk

theorem TablesOwing.commitLayers {p : Fin 16} {c : Condition} {o : Origin} (h : TablesOwing late [] 0 s) :
    TablesOwing late [] 0 (commitLayers p c o s) :=
  TablesOwing.offerGeneral _ (h.of_val rfl rfl le_rfl)

theorem TablesOwing.commit {p : Fin 16} {c : Condition} {o : Origin} (h : TablesOwing late [] 0 s) :
    TablesOwing late [] 0 (commit p c o s) := by
  unfold Machine.commit; dsimp only
  split
  · exact h.commitLayers.revoice
  · exact h.commitLayers

theorem TablesOwing.select {p : Fin 16} {c : Condition} {o : Origin} (h : TablesOwing late [] 0 s) :
    TablesOwing late [] 0 (select p c o s) := by
  cases c with
  | immediate => exact h.commit
  | next t => exact h.of_val rfl rfl le_rfl

theorem TablesOwing.takeBeat {b : Bool} (h : TablesOwing late [] 0 s) : TablesOwing late [] 0 (takeBeat b s) := by
  unfold Machine.takeBeat
  split
  · split
    · exact h.commit
    · exact h
  · exact h

theorem TablesOwing.takeReversal {d : Side} (h : TablesOwing late [] 0 s) : TablesOwing late [] 0 (takeReversal d s) := by
  unfold Machine.takeReversal; dsimp only
  split
  · split
    · split
      · exact h.commitLayers.revoice
      · exact h.commitLayers.carryAll
    · exact h.carryAll
  · exact h.carryAll

end
end Sys2Proof.Machine
end

section
/-! ## Key events -/

namespace Sys2Proof.Machine

section
variable {late : List (Fin 192)} {s : State} {k : Fin 192}

/-! ### Presses -/

/-- Where a new held-key entry goes: behind the entries of keys no higher (R120). -/
theorem insertHeld_eq (h : HeldKey) (l : List HeldKey) :
    insertHeld h l =
      l.takeWhile (fun x => decide (x.key ≤ h.key)) ++ h :: l.dropWhile fun x => decide (x.key ≤ h.key) := by
  induction l with
  | nil => rfl
  | cons x xs ih =>
    unfold insertHeld
    by_cases hx : h.key < x.key
    · simp [hx, not_le.mpr hx]
    · simp [hx, not_lt.mp hx, ih]

theorem insertHeld_perm (h : HeldKey) (l : List HeldKey) : (insertHeld h l).Perm (h :: l) := by
  rw [insertHeld_eq]
  refine List.perm_middle.trans (.cons h ?_)
  rw [List.takeWhile_append_dropWhile]

/-- A key that was not held joins the table in ascending order. -/
theorem insertHeld_sorted {h : HeldKey} {l : List HeldKey} (hs : (l.map HeldKey.key).Pairwise (· < ·))
    (hn : h.key ∉ l.map HeldKey.key) : ((insertHeld h l).map HeldKey.key).Pairwise (· < ·) := by
  induction l with
  | nil => simp [insertHeld]
  | cons x xs ih =>
    rw [List.map_cons, List.pairwise_cons] at hs
    rw [List.map_cons, List.mem_cons, not_or] at hn
    unfold insertHeld
    split
    next hlt =>
      refine List.pairwise_cons.mpr ⟨fun y hy => ?_, List.pairwise_cons.mpr hs⟩
      rcases List.mem_cons.mp hy with rfl | hy
      · exact hlt
      · exact hlt.trans (hs.1 y hy)
    next hge =>
      refine List.pairwise_cons.mpr ⟨fun y hy => ?_, ih hs.2 hn.2⟩
      obtain ⟨z, hz, rfl⟩ := List.mem_map.mp hy
      rcases mem_insertHeld.mp hz with rfl | hz
      · exact lt_of_le_of_ne (not_lt.mp hge) (Ne.symm hn.1)
      · exact hs.1 _ (List.mem_map_of_mem hz)

theorem setHeld_insertHeld_heldKeys (h : HeldKey) (s : State) (x : Fin 192) :
    x ∈ (setHeld (insertHeld h s.val.held) s).heldKeys ↔ x = h.key ∨ x ∈ s.heldKeys := by
  simp only [mem_heldKeys, setHeld_held, mem_insertHeld]
  constructor
  · rintro ⟨y, rfl | hy, rfl⟩
    · exact .inl rfl
    · exact .inr ⟨y, hy, rfl⟩
  · rintro (rfl | ⟨y, hy, rfl⟩)
    · exact ⟨h, .inl rfl, rfl⟩
    · exact ⟨y, .inr hy, rfl⟩

/-- A press that is entered is attacked; any other leaves voices and held keys alone (R122). -/
theorem press_cases (k : Fin 192) (s : State) :
    press k s = s ∨ press k s = raiseFlag .keyFull s ∨
      (s.val.held.length < heldSize ∧
        press k s = attack k s.attackSide .press (setHeld (insertHeld ⟨k, s.attackSide, []⟩ s.val.held) s)) := by
  unfold press
  split
  · exact .inl rfl
  · split
    · exact .inr (.inl rfl)
    · exact .inr (.inr ⟨by omega, rfl⟩)

theorem TablesOwing.insertHeld {d : Side} (h : TablesOwing late [] 0 s) (hk : k ∉ s.heldKeys)
    (hdown : s.ksc.filters[k].down = true) (hsize : s.val.held.length < heldSize) :
    TablesOwing late [] 0 (setHeld (insertHeld ⟨k, d, []⟩ s.val.held) s) where
  down x hx := by
    rcases (setHeld_insertHeld_heldKeys ..).mp hx with rfl | hx
    · exact .inl hdown
    · exact h.down x hx
  sorted := insertHeld_sorted h.sorted hk
  size := by
    have : s.val.held.length < 24 := hsize
    simp only [State.heldKeys, setHeld_held, List.length_map, length_insertHeld]; omega
  lists x hx := by
    rcases mem_insertHeld.mp hx with rfl | hx
    · simp [ListLegal]
    · exact h.lists x hx
  holders v := by
    have : (setHeld (Machine.insertHeld ⟨k, d, []⟩ s.val.held) s).listings v = s.listings v := by
      rw [State.listings, setHeld_held, (insertHeld_perm _ _).countP_eq, List.countP_cons]
      simp [listHolds, State.listings]
    rw [this]; exact h.holders v
  reserve := h.reserve

theorem TablesOwing.press (h : TablesOwing late [] 0 s) (hk : k ∉ s.heldKeys) (hdown : s.ksc.filters[k].down = true) :
    TablesOwing late [] 0 (press k s) := by
  rcases press_cases k s with he | he | ⟨hsize, he⟩ <;> rw [he]
  · exact h
  · exact h.raiseFlag _
  · exact (h.insertHeld hk hdown hsize).attack ((setHeld_insertHeld_heldKeys ..).mpr (.inl rfl))

theorem mem_press_heldKeys {x : Fin 192} (hx : x ∈ (Machine.press k s).heldKeys) : x = k ∨ x ∈ s.heldKeys := by
  rcases press_cases k s with he | he | ⟨_, he⟩ <;> rw [he] at hx
  · exact .inr hx
  · exact .inr (by simpa [State.heldKeys] using hx)
  · rw [(attack_sidesKept ..).heldKeys] at hx
    exact (setHeld_insertHeld_heldKeys ..).mp hx

/-! ### Releases -/

/-- A key that is not held is not awaited. -/
theorem TablesOwing.not_late {ps : List Pair} {room : Nat} (h : TablesOwing (k :: late) ps room s) (hk : k ∉ s.heldKeys) :
    TablesOwing late ps room s :=
  { h with
    down := fun x hx => (h.down x hx).imp_right fun hl =>
      (List.mem_cons.mp hl).resolve_left fun e : x = k => hk (e ▸ hx) }

/-- The entry of a released key taken out leaves its voices to be released (R132). -/
theorem TablesOwing.removeHeld {h : HeldKey} (ht : TablesOwing (h.key :: late) [] 0 s) (hh : h ∈ s.val.held) :
    TablesOwing late h.pairs 0 (setHeld (s.val.held.filter fun x => x.key != h.key) s) where
  down x hx := by
    obtain ⟨y, hy, rfl⟩ := mem_heldKeys.mp hx
    obtain ⟨hy, hne⟩ := List.mem_filter.mp hy
    refine (ht.down y.key (mem_heldKeys.mpr ⟨y, hy, rfl⟩)).imp_right fun hl => ?_
    exact (List.mem_cons.mp hl).resolve_left (by simpa using hne)
  sorted := ht.sorted.sublist (List.filter_sublist.map HeldKey.key)
  size := ((List.filter_sublist.map HeldKey.key).length_le).trans ht.size
  lists x hx := ht.lists x (List.mem_of_mem_filter hx)
  holders v := by
    obtain ⟨l₁, x, l₂, hl, hx, hp, h₁, h₂⟩ := exists_held_split ht.nodup (mem_heldKeys.mpr ⟨h, hh, rfl⟩)
    have hpairs : x.pairs = h.pairs := by rw [← hp, pairsOf_of_mem ht.nodup hh]
    have hfilter : (s.val.held.filter fun x => x.key != h.key) = l₁ ++ l₂ := by
      rw [hl, List.filter_append, List.filter_cons, if_neg (by simp [hx]),
        List.filter_eq_self.mpr fun y hy => bne_iff_ne.mpr (h₁ y hy),
        List.filter_eq_self.mpr fun y hy => bne_iff_ne.mpr (h₂ y hy)]
    have hcount : (setHeld (s.val.held.filter fun x => x.key != h.key) s).listings v + owed h.pairs v = s.listings v := by
      rw [State.listings, setHeld_held, hfilter, State.listings, hl, owed_eq_of_nodup (ht.lists h hh).2]
      simp only [List.countP_append, List.countP_cons, hpairs]
      omega
    have := ht.holders v
    rw [owed_nil, Nat.add_zero, ← hcount] at this
    exact this
  reserve := ht.reserve

theorem TablesOwing.release (h : TablesOwing (k :: late) [] 0 s) : TablesOwing late [] 0 (release k s) := by
  unfold Machine.release
  split
  next he => exact h.not_late (heldEntry_eq_none.mp he)
  next x he =>
    obtain ⟨hx, rfl⟩ := heldEntry_some he
    exact (h.removeHeld hx).releasePairs

/-- A released key is not held, and the others are. -/
theorem mem_release_heldKeys {x : Fin 192} : x ∈ (Machine.release k s).heldKeys ↔ x ≠ k ∧ x ∈ s.heldKeys := by
  unfold Machine.release
  split
  next he =>
    have := heldEntry_eq_none.mp he
    exact ⟨fun hx => ⟨fun e => this (e ▸ hx), hx⟩, And.right⟩
  next h he =>
    simp only [mem_heldKeys, releasePairs_held, setHeld_held, List.mem_filter, bne_iff_ne]
    constructor
    · rintro ⟨y, ⟨hy, hne⟩, rfl⟩; exact ⟨hne, y, hy, rfl⟩
    · rintro ⟨hne, y, hy, rfl⟩; exact ⟨y, ⟨hy, hne⟩, rfl⟩

/-! ### Routing -/

theorem commit_heldKeys (p : Fin 16) (c : Condition) (o : Origin) (s : State) : (commit p c o s).heldKeys = s.heldKeys := by
  have hval : (commitLayers p c o s).heldKeys = s.heldKeys := by
    have h := offerGeneral_queueOnly (.registration p o c)
      (s.withReg { s.reg with active := s.reg.store[p].layers, activePreset := some p, slot := none })
    rw [QueueOnly] at h; rw [commitLayers, h]; rfl
  unfold commit; dsimp only; split
  · rw [revoice_heldKeys, hval]
  · exact hval

theorem pressSwitch_heldKeys (k : Fin 192) (s : State) : (pressSwitch k s).heldKeys = s.heldKeys := by
  unfold pressSwitch select
  repeat' split
  · rfl
  · exact commit_heldKeys ..
  · rfl

theorem TablesOwing.routePress (h : TablesOwing late [] 0 s) (hk : k ∉ s.heldKeys)
    (hdown : s.ksc.filters[k].down = true) : TablesOwing late [] 0 (routePress k s) := by
  unfold Machine.routePress
  split
  case h_4 =>
    unfold pressSwitch; split
    · exact h
    · exact h.select
  case h_5 => exact h
  all_goals exact h.press hk hdown

theorem mem_routePress_heldKeys {x : Fin 192} (hx : x ∈ (Machine.routePress k s).heldKeys) : x = k ∨ x ∈ s.heldKeys := by
  unfold Machine.routePress at hx
  split at hx
  case h_4 => exact .inr (pressSwitch_heldKeys k s ▸ hx)
  case h_5 => exact .inr hx
  all_goals exact mem_press_heldKeys hx

/-- A release is routed to the Voice Allocator whenever the key is held (R8). -/
theorem routeRelease_cases (k : Fin 192) (s : State) :
    Machine.routeRelease k s = Machine.release k s ∨ (k ∉ s.heldKeys ∧ Machine.routeRelease k s = s) := by
  unfold Machine.routeRelease
  split
  · exact .inl rfl
  next h =>
    refine .inr ⟨heldEntry_eq_none.mp ?_, rfl⟩
    cases he : s.heldEntry k with
    | none => rfl
    | some x => exact absurd (by simp [State.isHeld, he]) h

theorem TablesOwing.routeRelease (h : TablesOwing (k :: late) [] 0 s) : TablesOwing late [] 0 (routeRelease k s) := by
  rcases routeRelease_cases k s with he | ⟨hk, he⟩ <;> rw [he]
  · exact h.release
  · exact h.not_late hk

theorem mem_routeRelease_heldKeys {x : Fin 192} (hx : x ∈ (Machine.routeRelease k s).heldKeys) : x ∈ s.heldKeys := by
  rcases routeRelease_cases k s with he | ⟨_, he⟩ <;> rw [he] at hx
  · exact (mem_release_heldKeys.mp hx).2
  · exact hx

end

/-! ### The events of a scan -/

/-- The keys that wait for their release to be routed. -/
def releasesOf (es : List KeyEvent) : List (Fin 192) := (es.filter fun e => !e.press).map KeyEvent.key

/-- The key events of a scan that are still to be routed (R5): no key has two of them, the tables are lawful but for the held keys
that wait for their release, and a key that is pressed is DOWN and not held. -/
structure EventsWait (es : List KeyEvent) (s : State) : Prop where
  once : (es.map KeyEvent.key).Nodup
  tables : TablesOwing (releasesOf es) [] 0 s
  fresh : ∀ e ∈ es, e.press = true → e.key ∉ s.heldKeys ∧ s.ksc.filters[e.key].down = true

theorem routeEvent_ksc (s : State) (e : KeyEvent) : (routeEvent s e).ksc = s.ksc := by
  have h := routeEvent_playOnly e s
  rw [PlayOnly] at h; rw [h]; rfl

/-- Routing an event holds or lets go its own key at most. -/
theorem mem_routeEvent_heldKeys {s : State} {e : KeyEvent} {x : Fin 192} (hx : x ∈ (routeEvent s e).heldKeys) :
    x = e.key ∨ x ∈ s.heldKeys := by
  unfold routeEvent at hx
  split at hx
  · exact mem_routePress_heldKeys hx
  · exact .inr (mem_routeRelease_heldKeys hx)

/-- The first of the waiting events routed leaves the others waiting. -/
theorem EventsWait.routeEvent {e : KeyEvent} {es : List KeyEvent} {s : State} (h : EventsWait (e :: es) s) :
    EventsWait es (routeEvent s e) := by
  obtain ⟨hne, honce⟩ := List.nodup_cons.mp h.once
  refine ⟨honce, ?_, fun x hx hp => ?_⟩
  · have htables := h.tables
    unfold Machine.routeEvent
    cases hp : e.press
    · rw [releasesOf, List.filter_cons, if_pos (by simp [hp]), List.map_cons] at htables
      exact htables.routeRelease
    · rw [releasesOf, List.filter_cons, if_neg (by simp [hp])] at htables
      obtain ⟨hk, hdown⟩ := h.fresh e (by simp) hp
      exact htables.routePress hk hdown
  · obtain ⟨hk, hdown⟩ := h.fresh x (by simp [hx]) hp
    rw [routeEvent_ksc]
    refine ⟨fun hm => ?_, hdown⟩
    rcases mem_routeEvent_heldKeys hm with e' | hm
    · exact hne (e' ▸ List.mem_map_of_mem hx)
    · exact hk hm

theorem EventsWait.routeAll {es rest : List KeyEvent} {s : State} (h : EventsWait (es ++ rest) s) :
    EventsWait rest (es.foldl Machine.routeEvent s) := by
  induction es generalizing s with
  | nil => exact h
  | cons e es ih => exact ih h.routeEvent

theorem writeKeys_state (p : List Byte) (s : State) : ∃ m, (writeKeys p s).state = s.withImap m := by
  unfold writeKeys; dsimp only
  split
  · exact ⟨s.imap, rfl⟩
  · split
    · exact ⟨_, rfl⟩
    · exact ⟨s.imap, rfl⟩

theorem serveWriteKeys_frame (f : Frame) (s : State) : ∃ m l, serveWriteKeys f s = (s.withImap m).withLnk l := by
  unfold serveWriteKeys
  split
  · exact ⟨s.imap, _, rfl⟩
  · split
    · exact ⟨s.imap, _, rfl⟩
    · split
      · obtain ⟨m, hm⟩ := writeKeys_state f.payload s
        exact ⟨m, _, by rw [reply, placeReply, hm]⟩
      · exact ⟨s.imap, _, rfl⟩

/-- A WriteKeys taken between events writes the map and answers on the link, and changes nothing else (R74, R75). -/
theorem takeWriteKeys_frame (s : State) : ∃ m l, takeWriteKeys s = (s.withImap m).withLnk l := by
  unfold takeWriteKeys takeWaiting
  split
  · split
    next f _ _ =>
      obtain ⟨m, l, h⟩ := serveWriteKeys_frame f (dropRequest s)
      exact ⟨m, l, h⟩
    · exact ⟨s.imap, s.lnk, rfl⟩
  · exact ⟨s.imap, s.lnk, rfl⟩

theorem EventsWait.takeWriteKeys {es : List KeyEvent} {s : State} (h : EventsWait es s) :
    EventsWait es (takeWriteKeys s) := by
  obtain ⟨m, l, he⟩ := takeWriteKeys_frame s
  rw [he]
  exact ⟨h.once, h.tables.of_val rfl rfl le_rfl, h.fresh⟩

/-- All the events of a scan routed, with a WriteKeys among them or not, leave the tables lawful. -/
theorem EventsWait.routeEvents {es : List KeyEvent} {s : State} (writeAfter : Option Nat) (h : EventsWait es s) :
    TablesOwing [] [] 0 (routeEvents writeAfter es s) := by
  cases writeAfter with
  | none => exact (EventsWait.routeAll (rest := []) (by rwa [List.append_nil])).tables
  | some n =>
    have hfirst : EventsWait (es.drop n) ((es.take n).foldl Machine.routeEvent s) :=
      EventsWait.routeAll (by rwa [List.take_append_drop])
    exact (EventsWait.routeAll (rest := []) (by rw [List.append_nil]; exact hfirst.takeWriteKeys)).tables

/-! ### A scan's events -/

/-- The events of a scan are those of the keys whose filters turn, in ascending key id (R5). -/
theorem keyEvents_eq (r : Readings) (k : Scanner) :
    keyEvents r k =
      ((List.finRange 192).filter fun i => k.filters[i].turns k.agreement (readingOf r i)).map fun i =>
        { key := i, press := readingOf r i } := by
  rw [keyEvents, ← List.filterMap_eq_map, List.filterMap_filter]
  rfl

theorem mem_keyEvents {r : Readings} {k : Scanner} {e : KeyEvent} :
    e ∈ keyEvents r k ↔ k.filters[e.key].turns k.agreement (readingOf r e.key) = true ∧ e.press = readingOf r e.key := by
  rw [keyEvents_eq]
  simp only [List.mem_map, List.mem_filter, List.mem_finRange, true_and]
  constructor
  · rintro ⟨i, hi, rfl⟩; exact ⟨hi, rfl⟩
  · rintro ⟨hi, hp⟩; exact ⟨e.key, hi, by cases e; simp_all⟩

theorem keyEvents_once (r : Readings) (k : Scanner) : ((keyEvents r k).map KeyEvent.key).Nodup := by
  rw [keyEvents_eq, List.map_map]
  exact (List.map_id _).symm ▸ (List.nodup_finRange 192).filter _

theorem Scanner.filtered_get (r : Readings) (k : Scanner) (i : Fin 192) :
    (k.filtered r).filters[i] = k.filters[i].update k.agreement (readingOf r i) := by
  simp [Scanner.filtered]

/-- A filter's state after a reading: the reading where the filter turns, and else what it was (R3). -/
theorem KeyFilter.update_down (n : Nat) (closed : Bool) (f : KeyFilter) :
    (f.update n closed).down = if f.turns n closed then closed else f.down := by
  unfold KeyFilter.update KeyFilter.turns
  by_cases h : closed = f.down
  · simp [h]
  · cases hr : f.ripe n <;> simp [h]

/-- A turning filter's reading differs from its state (R3). -/
theorem KeyFilter.turns_ne {n : Nat} {closed : Bool} {f : KeyFilter} (h : f.turns n closed = true) : closed ≠ f.down := by
  simp only [KeyFilter.turns, Bool.and_eq_true, bne_iff_ne] at h
  exact h.1

@[simp] theorem State.withKsc_heldKeys (s : State) (x : Scanner) : (s.withKsc x).heldKeys = s.heldKeys := rfl

/-- New scanner values leave the tables lawful, but for the held keys that they find UP. -/
theorem TablesOwing.withKsc {late late' : List (Fin 192)} {s : State} {x : Scanner} (h : TablesOwing late [] 0 s)
    (hx : ∀ k ∈ s.heldKeys, x.filters[k].down = true ∨ k ∈ late') : TablesOwing late' [] 0 (s.withKsc x) :=
  ⟨hx, h.sorted, h.size, h.lists, h.holders, h.reserve⟩

theorem TablesOwing.withKsc_of_down {s : State} {x : Scanner} (h : TablesOwing [] [] 0 s)
    (hx : ∀ k : Fin 192, x.filters[k].down = s.ksc.filters[k].down) : TablesOwing [] [] 0 (s.withKsc x) :=
  h.withKsc fun k hk => hx k ▸ h.down k hk

theorem TablesOwing.heldKeys_down {ps : List Pair} {room : Nat} {s : State} (h : TablesOwing [] ps room s) {k : Fin 192}
    (hk : k ∈ s.heldKeys) : s.ksc.filters[k].down = true :=
  (h.down k hk).resolve_right List.not_mem_nil

/-- After the filters of a scan have taken their readings its events wait. -/
theorem eventsWait_filtered {s : State} (r : Readings) (h : TablesOwing [] [] 0 s) :
    EventsWait (keyEvents r s.ksc) (s.withKsc (s.ksc.filtered r)) where
  once := keyEvents_once r s.ksc
  tables := by
    refine h.withKsc fun k hk => ?_
    have hdown := h.heldKeys_down hk
    rw [Scanner.filtered_get, KeyFilter.update_down]
    split
    next ht =>
      have hopen : false = readingOf r k := by
        have := KeyFilter.turns_ne ht
        rw [hdown] at this; exact (Bool.eq_false_iff.mpr this).symm
      have hmem : ⟨k, false⟩ ∈ keyEvents r s.ksc := mem_keyEvents.mpr ⟨ht, hopen⟩
      exact .inr (List.mem_map.mpr ⟨_, List.mem_filter.mpr ⟨hmem, rfl⟩, rfl⟩)
    · exact .inl hdown
  fresh e he hp := by
    obtain ⟨ht, hpress⟩ := mem_keyEvents.mp he
    rw [hp] at hpress
    rw [State.withKsc_heldKeys, State.withKsc_ksc, Scanner.filtered_get, KeyFilter.update_down, if_pos ht]
    exact ⟨fun hk => KeyFilter.turns_ne ht (hpress.symm.trans (h.heldKeys_down hk).symm), hpress.symm⟩

theorem TablesOwing.completeScan {r : Readings} {w : Option Nat} {s : State} (h : TablesOwing [] [] 0 s) :
    TablesOwing [] [] 0 (completeScan r w s) := by
  unfold Machine.completeScan
  split
  · exact h.withKsc_of_down fun k => by simp [Scanner.windowed]
  · exact (eventsWait_filtered r h).routeEvents w
  · exact (eventsWait_filtered r h).routeEvents w

theorem Scanner.meetBoundary_down (k : Scanner) (i : Fin 192) :
    k.meetBoundary.filters[i].down = k.filters[i].down := by
  rcases k.meetBoundary_cases with ⟨_, h⟩ | ⟨_, h⟩ <;> rw [h]
  simp [Scanner.applySettings]

end Sys2Proof.Machine
end

section
/-! ## The other commands -/

namespace Sys2Proof.Machine

section
variable {late : List (Fin 192)} {s : State}

/-! ### Sections, cut and resets -/

/-- A law that an operation keeps is kept however often it is repeated. -/
theorem repeat_keeps_law {P : State → Prop} {f : State → State} (step : ∀ s, P s → P (f s)) (n : Nat) (h : P s) :
    P (Nat.repeat f n s) :=
  repeat_keeps (R := fun s t => P s → P t) (fun _ => id) (fun _ _ _ f g => g ∘ f) step n s h

theorem TablesOwing.stealToLimit {n : Fin 8} (h : TablesOwing late [] 0 s) : TablesOwing late [] 0 (stealToLimit n s) :=
  repeat_keeps_law (fun _ hs => hs.endOldest) _ h

/-- Voices that were RELEASING freed silently: nobody holds them, before or after (R134, R141). -/
theorem TablesOwing.freeSilently {f : Voice → Bool} (h : TablesOwing late [] 0 s)
    (hf : ∀ x, f x = true → x.isReleasing = true) :
    TablesOwing late [] 0
      (s.withVal { s.val with voices := s.val.voices.map fun x => if f x then x.freed else x }) := by
  refine h.of_keys rfl rfl h.lists (fun v => ?_) ?_
  · have hv := h.holders v
    simp only [State.withVal_val, Fin.getElem_fin, Vector.getElem_map]
    split
    next hx =>
      have hsilent : s.val.voices[v].isSounding = false := by
        have := hf _ hx
        simp only [Voice.isReleasing, Bool.and_eq_true, Bool.not_eq_true'] at this
        exact this.1
      have hnone : (s.withVal { s.val with voices := s.val.voices.map fun x => if f x then x.freed else x }).listings v = 0 :=
        h.listings_eq_zero hsilent
      rw [hnone]; exact Voice.freed_heldBy _
    · exact hv
  · have hsound : (s.withVal { s.val with voices := s.val.voices.map fun x => if f x then x.freed else x }).soundingTotal =
        s.soundingTotal := by
      simp only [State.soundingTotal, State.withVal_val, Vector.toList_map, List.countP_map]
      refine List.countP_congr fun x _ => ?_
      simp only [Function.comp]
      split
      next hx =>
        have := hf x hx
        simp only [Voice.isReleasing, Bool.and_eq_true, Bool.not_eq_true'] at this
        simp [this.1]
      · rfl
    exact hsound ▸ h.reserve

theorem TablesOwing.endSection {n : Fin 8} (h : TablesOwing late [] 0 s) : TablesOwing late [] 0 (endSection n s) :=
  (repeat_keeps_law (fun _ hs => hs.endOldest) _ h).freeSilently fun x hx => by
    simp only [Bool.and_eq_true] at hx; exact hx.1

/-- With no key held and no voice held the laws ask only that the queue is not overfull. -/
theorem tablesOwing_of_silent (hheld : s.val.held = []) (hfree : ∀ v : Fin 48, s.val.voices[v].heldBy 0)
    (hfill : s.fill ≤ queueSize) : TablesOwing late [] 0 s := by
  have hkeys : s.heldKeys = [] := by simp [State.heldKeys, hheld]
  have hsound : s.soundingTotal = 0 := by
    refine List.countP_eq_zero.mpr fun x hx => ?_
    obtain ⟨i, hi, rfl⟩ := List.getElem_of_mem hx
    rw [Vector.length_toList] at hi
    rw [Vector.getElem_toList]
    exact fun hs => Nat.lt_irrefl 0 ((hfree ⟨i, hi⟩).isSounding.mp hs)
  refine ⟨by simp [hkeys], by simp [hkeys], by simp [hkeys], by simp [hheld], fun v => ?_, by omega⟩
  have hnone : s.listings v = 0 := by simp [State.listings, hheld]
  rw [hnone]; exact hfree v

theorem endAllVoices_heldBy (s : State) (v : Fin 48) : (endAllVoices s).val.voices[v].heldBy 0 := by
  simp only [endAllVoices, State.withVal_val, Fin.getElem_fin, Vector.getElem_map, Voice.freed_heldBy]

/-- The cut purge makes room for its AllOff in a full queue (R156). -/
theorem purgeForCut_fill_le (c : AllOffCause) (h : s.fill ≤ queueSize) : (purgeForCut c s).fill ≤ queueSize := by
  have hkept := List.length_filter_le (fun e => e.report.section?.isNone && !e.isAllOff) s.evq.entries
  have hroomy : ∀ l : List Entry, l.length ≤ queueSize →
      (if queueSize ≤ l.length then l.dropLast else l).length + 1 ≤ queueSize := fun l hl => by
    split
    · rw [List.length_dropLast]; simp only [queueSize] at *; omega
    · omega
  exact hroomy _ (hkept.trans h)

theorem TablesOwing.beginCut {c : CutCause} (h : TablesOwing late [] 0 s) : TablesOwing late [] 0 (beginCut c s) := by
  have hfill : s.fill ≤ queueSize := by have := h.reserve; omega
  refine tablesOwing_of_silent rfl (endAllVoices_heldBy (setCut true s)) ?_
  exact purgeForCut_fill_le c.allOff
    (s := setCutRecord (some c) (setCut true s).liveVoices (endAllVoices (setCut true s))) hfill

theorem TablesOwing.cutIfNormal {c : CutCause} (h : TablesOwing late [] 0 s) : TablesOwing late [] 0 (cutIfNormal c s) := by
  unfold Machine.cutIfNormal; split
  · exact h
  · exact h.beginCut

/-- A soft reset leaves two entries and silence (R144, R157). -/
theorem tablesOwing_softReset (s : State) : TablesOwing late [] 0 (softReset s) :=
  tablesOwing_of_silent rfl (endAllVoices_heldBy _) (show 2 ≤ 128 by omega)

theorem tablesOwing_released (cause : ResetCause) (rate : LineRate) (cut : Bool) (picks : Nat) (pending : List Instr) :
    TablesOwing late [] 0 (State.released cause rate cut picks pending) :=
  tablesOwing_of_silent rfl (fun v => by simp [State.released, hardAllocator, Voice.heldBy]) (show 1 ≤ 128 by omega)

/-! ### Expression Unit -/

theorem TablesOwing.handDynamic {n : Fin 8} (h : TablesOwing late [] 0 s) : TablesOwing late [] 0 (handDynamic n s) := by
  unfold Machine.handDynamic
  split
  · exact h.of_val rfl rfl (replaceDynamic_fill ..).le
  · split
    next ha =>
      have hroom : s.soundingTotal + 1 ≤ queueSize - s.fill := of_decide_eq_true ha
      have : TablesOwing late [] 1 s := { h with reserve := by omega }
      exact this.of_val rfl rfl (pushSection_fill _ _ s).le
    · exact h

theorem TablesOwing.testDynamics (h : TablesOwing late [] 0 s) : TablesOwing late [] 0 (testDynamics s) :=
  List.foldlRecOn _ _ h fun t ht n _ => by
    unfold testDynamic; split
    · exact ht.handDynamic
    · exact ht

theorem TablesOwing.reportAllReady (h : TablesOwing late [] 0 s) : TablesOwing late [] 0 (reportAllReady s) :=
  List.foldlRecOn _ _ h fun t ht n _ => by
    split
    · exact ht.handDynamic
    · exact ht

theorem TablesOwing.becomeReady {n : Fin 8} (h : TablesOwing late [] 0 s) : TablesOwing late [] 0 (becomeReady n s) := by
  have hset : TablesOwing late [] 0 (setReadiness n .ready s) := h.of_val rfl rfl le_rfl
  unfold Machine.becomeReady reportReady; split
  · exact hset
  · exact hset.handDynamic

theorem TablesOwing.forceStages {c : Int} (h : TablesOwing late [] 0 s) : TablesOwing late [] 0 (forceStages c s) := by
  unfold Machine.forceStages; dsimp only; split
  · exact (h.raiseFlag .clip).of_val rfl rfl le_rfl
  · exact h.of_val rfl rfl le_rfl

theorem TablesOwing.expressionSample {c : Option Int} (h : TablesOwing late [] 0 s) :
    TablesOwing late [] 0 (expressionSample c s) := by
  have htake : ∀ t, TablesOwing late [] 0 t → TablesOwing late [] 0 (takeLevels t) := fun t ht => ht.of_val rfl rfl le_rfl
  cases c with
  | none => exact (htake _ (h.of_val (t := accentCountdown s) rfl rfl le_rfl)).testDynamics
  | some c =>
    have hheard : TablesOwing late [] 0 (accentTest (accentCountdown (Machine.forceStages c s))) :=
      h.forceStages.of_val rfl rfl le_rfl
    exact (htake _ hheard).testDynamics

/-! ### Bellows Unit and Tempo Clock -/

theorem TablesOwing.sensorTest {raw : Int} (h : TablesOwing late [] 0 s) : TablesOwing late [] 0 (sensorTest raw s) := by
  have hblu : ∀ b, TablesOwing late [] 0 (s.withBlu b) := fun b => h.of_val rfl rfl le_rfl
  unfold Machine.sensorTest enterFault
  repeat' split
  case isTrue => exact TablesOwing.offerGeneral _ (hblu _)
  all_goals exact hblu _

theorem TablesOwing.clipCentring {raw : Int} (h : TablesOwing late [] 0 s) : TablesOwing late [] 0 (clipCentring raw s) := by
  unfold Machine.clipCentring; split
  · exact h
  · exact h.raiseFlag _

theorem TablesOwing.ordinarySample {raw : Int} (h : TablesOwing late [] 0 s) :
    TablesOwing late [] 0 (ordinarySample raw s) := by
  have htested : ∀ b, TablesOwing late [] 0 ((Machine.clipCentring raw s).withBlu b) :=
    fun b => h.clipCentring.of_val rfl rfl le_rfl
  unfold Machine.ordinarySample; dsimp only; split
  · exact ((htested _).expressionSample.offerGeneral _).takeReversal
  · exact (htested _).expressionSample

theorem TablesOwing.processSample {raw : Int} (h : TablesOwing late [] 0 s) :
    TablesOwing late [] 0 (processSample raw s) := by
  have hjudged : TablesOwing late [] 0 (Machine.sensorTest raw (collect raw s)) :=
    (h.of_val (t := collect raw s) rfl rfl le_rfl).sensorTest
  unfold Machine.processSample; dsimp only; split
  · exact hjudged.expressionSample
  · exact hjudged.ordinarySample

theorem TablesOwing.reportPhase {p : ClockPhase} (h : TablesOwing late [] 0 s) : TablesOwing late [] 0 (reportPhase p s) := by
  unfold Machine.reportPhase; split
  · exact h
  · exact h.offerGeneral _

theorem TablesOwing.beatEvent {p : ClockPhase} {c : Clock} (h : TablesOwing late [] 0 s) :
    TablesOwing late [] 0 (beatEvent p c s) :=
  (h.of_val (t := s.withTck (c.beat p)) rfl rfl le_rfl).reportPhase.takeBeat

theorem TablesOwing.acceptBeat (h : TablesOwing late [] 0 s) : TablesOwing late [] 0 (acceptBeat s) := by
  unfold Machine.acceptBeat; split
  · exact h
  · exact h.beatEvent

theorem TablesOwing.meetDeadline (h : TablesOwing late [] 0 s) : TablesOwing late [] 0 (meetDeadline s) := by
  unfold Machine.meetDeadline; split
  · exact h.beatEvent
  · exact (h.of_val (t := s.withTck s.tck.stop) rfl rfl le_rfl).reportPhase

/-! ### Link Controller -/

theorem TablesOwing.disposeFrame {f : Frame} (h : TablesOwing late [] 0 s) : TablesOwing late [] 0 (disposeFrame f s) := by
  unfold Machine.disposeFrame; split
  · exact h
  · split
    · exact h.raiseFlag _
    · exact h.of_val rfl rfl le_rfl

theorem TablesOwing.setReceiver {r : Receiver} (h : TablesOwing late [] 0 s) : TablesOwing late [] 0 (setReceiver r s) :=
  h.of_val rfl rfl le_rfl

theorem TablesOwing.hunt (n : Nat) (bs : List Byte) (h : TablesOwing late [] 0 s) : TablesOwing late [] 0 (hunt n bs s) := by
  induction n generalizing bs s with
  | zero => exact h.setReceiver
  | succ n ih =>
    cases bs with
    | nil => exact h.setReceiver
    | cons b bs =>
      unfold Machine.hunt; dsimp only
      repeat' split
      · exact ih bs h
      · exact h.setReceiver
      · exact ih _ (h.raiseFlag _)
      · exact h.setReceiver
      · exact ih _ h.disposeFrame
      · exact ih _ (h.raiseFlag _)

theorem TablesOwing.abandon {f : StickyFlag} {held : List Byte} (h : TablesOwing late [] 0 s) :
    TablesOwing late [] 0 (abandon f held s) := TablesOwing.hunt _ _ (h.raiseFlag f)

theorem TablesOwing.completeFrame (h : TablesOwing late [] 0 s) : TablesOwing late [] 0 (completeFrame s) := by
  unfold Machine.completeFrame
  repeat' split
  · exact h
  · exact h.disposeFrame.setReceiver
  · exact h.abandon
  · exact h

theorem TablesOwing.takeByte {b : Byte} {low : Bool} (h : TablesOwing late [] 0 s) :
    TablesOwing late [] 0 (takeByte b low s) := by
  unfold Machine.takeByte; dsimp only
  repeat' split
  · exact h.setReceiver
  · exact h
  · exact h.abandon
  · exact h.abandon
  · exact h.setReceiver

/-- The head entry sent leaves one entry fewer (R177). -/
theorem TablesOwing.chooseFrame (h : TablesOwing late [] 0 s) : TablesOwing late [] 0 (chooseFrame s) := by
  unfold Machine.chooseFrame
  repeat' split
  · exact h.of_val rfl rfl le_rfl
  · refine h.of_val rfl rfl ?_
    have : s.evq.entries.tail.length ≤ s.evq.entries.length := by simp
    exact this
  · exact h
  · exact h

/-! ### Requests -/

theorem selectRequest_state (p : List Byte) (s : State) :
    (selectRequest p s).state = s ∨ ∃ q c, (selectRequest p s).state = select q c .request s := by
  unfold selectRequest; dsimp only
  split
  · exact .inl rfl
  · split
    · split
      · exact .inl rfl
      · split
        · exact .inr ⟨_, .immediate, rfl⟩
        · exact .inr ⟨_, .next _, rfl⟩
    · exact .inl rfl

theorem TablesOwing.selectRequest {p : List Byte} (h : TablesOwing late [] 0 s) :
    TablesOwing late [] 0 (selectRequest p s).state := by
  rcases selectRequest_state p s with he | ⟨q, c, he⟩ <;> rw [he]
  · exact h
  · exact h.select

theorem TablesOwing.writeSection {p : List Byte} (h : TablesOwing late [] 0 s) :
    TablesOwing late [] 0 (writeSection p s).state := by
  unfold Machine.writeSection; dsimp only
  split
  · split
    · exact TablesOwing.stealToLimit (h.of_val rfl rfl le_rfl)
    · exact h
  · exact h

theorem TablesOwing.declareOff {n : Fin 8} (h : TablesOwing late [] 0 s) : TablesOwing late [] 0 (declareOff n s) := by
  have hset : ∀ r, TablesOwing late [] 0 (setReadiness n r s) := fun r => h.of_val rfl rfl le_rfl
  unfold Machine.declareOff; split
  · exact (hset _).endSection
  · exact hset _
  · exact hset _

theorem TablesOwing.declareReady {n : Fin 8} {settle : Nat} (h : TablesOwing late [] 0 s) :
    TablesOwing late [] 0 (declareReady n settle s) := by
  have hnot : TablesOwing late [] 0
      (if settle = 0 then Machine.becomeReady n s
        else setReadiness n (.settling (s.tick + BitVec.ofNat 32 (ticksOfMs settle))) s) := by
    split
    · exact h.becomeReady
    · exact h.of_val rfl rfl le_rfl
  unfold Machine.declareReady; split
  · exact h
  · exact hnot
  · exact hnot

theorem TablesOwing.sectionReady {p : List Byte} (h : TablesOwing late [] 0 s) :
    TablesOwing late [] 0 (sectionReady p s).state := by
  unfold Machine.sectionReady; dsimp only
  repeat' split
  · exact h
  · exact h.declareReady
  · exact h.declareOff
  · exact h

theorem TablesOwing.resume {p : List Byte} (h : TablesOwing late [] 0 s) : TablesOwing late [] 0 (resume p s).state := by
  have hresumed : TablesOwing late [] 0 (Machine.reportAllReady (setCut false s)) :=
    TablesOwing.reportAllReady (h.of_val rfl rfl le_rfl)
  unfold Machine.resume; dsimp only
  split
  · split
    · exact h
    · dsimp only; exact hresumed
  · exact h

end

/-! ### Every command -/

/-- A law that an effect keeps is kept by the command that has it. -/
theorem whileRunning_keeps {P : State → Prop} {effect : State → State} {s t : State} (h : P s)
    (he : whileRunning effect s = .next t) (keeps : P (effect s)) : P t := by
  rw [whileRunning_eq_next.mp he]; split
  · exact keeps
  · exact h

/-- A law that speaks of no part of the link, and that the owner of a request keeps, is kept by the request's command. -/
theorem serve_keeps {P : State → Prop} {kind : Byte} {len : Nat} {owner : List Byte → State → Answer} {s t : State}
    (h : P s) (he : serve kind len owner s = .next t) (link : ∀ s l, P s → P (s.withLnk l))
    (keeps : ∀ p s, P s → P (owner p s).state) : P t := by
  have hreply : ∀ f a, P a.state → P (reply f a) := fun f a ha => link a.state _ ha
  rcases serve_cases he with rfl | ⟨tag, p, rest, _, hserved⟩
  · exact h
  · have hs : P { s with lnk := { s.lnk with inbound := rest } } := link s { s.lnk with inbound := rest } h
    rcases hserved with ⟨_, rfl⟩ | ⟨_, rfl⟩
    · exact hreply _ _ (keeps p _ hs)
    · exact hreply _ _ hs

section
variable {s t : State}

theorem TablesOwing.withLnk {late : List (Fin 192)} (s : State) (l : Link) (h : TablesOwing late [] 0 s) :
    TablesOwing late [] 0 (s.withLnk l) := h.of_val rfl rfl le_rfl

theorem TablesOwing.serve {kind : Byte} {len : Nat} {owner : List Byte → State → Answer} (h : TablesOwing [] [] 0 s)
    (he : serve kind len owner s = .next t)
    (keeps : ∀ p s, TablesOwing [] [] 0 s → TablesOwing [] [] 0 (owner p s).state) : TablesOwing [] [] 0 t :=
  serve_keeps h he TablesOwing.withLnk keeps

theorem execHardReset_keeps_tables {c : ResetCause} (h : TablesOwing [] [] 0 s) (he : execHardReset c s = .next t) :
    TablesOwing [] [] 0 t := by
  cases he
  exact TablesOwing.of_val (h.withKsc_of_down (x := { s.ksc with scanning := false }) fun _ => rfl) rfl rfl le_rfl


theorem execResetRelease_keeps_tables {a b c : Bool} (h : TablesOwing [] [] 0 s) (he : execResetRelease a b c s = .next t) :
    TablesOwing [] [] 0 t := by
  unfold execResetRelease at he
  split at he
  · cases he; exact tablesOwing_released ..
  · cases he; exact h


theorem execScanStart_keeps_tables (h : TablesOwing [] [] 0 s) (he : execScanStart s = .next t) :
    TablesOwing [] [] 0 t := by
  unfold execScanStart at he
  refine whileRunning_keeps h he ?_
  split
  · exact h.withKsc_of_down fun _ => rfl
  · exact h


theorem execScanCompletion_keeps_tables {r : ScanResult} (h : TablesOwing [] [] 0 s) (he : execScanCompletion r s = .next t) :
    TablesOwing [] [] 0 t := by
  unfold execScanCompletion at he
  refine whileRunning_keeps h he ?_
  split
  · exact h.completeScan
  · exact h


theorem execScanBoundary_keeps_tables (h : TablesOwing [] [] 0 s) (he : execScanBoundary s = .next t) :
    TablesOwing [] [] 0 t := by
  unfold execScanBoundary at he
  refine whileRunning_keeps h he ?_
  exact h.withKsc_of_down s.ksc.meetBoundary_down


theorem execReinitialisationWindowEnd_keeps_tables (h : TablesOwing [] [] 0 s) (he : execReinitialisationWindowEnd s = .next t) :
    TablesOwing [] [] 0 t := by
  unfold execReinitialisationWindowEnd at he
  refine whileRunning_keeps h he ?_
  split
  · exact h.withKsc_of_down fun _ => rfl
  · exact h


theorem execSample_keeps_tables {p : Int} (h : TablesOwing [] [] 0 s) (he : execSample p s = .next t) :
    TablesOwing [] [] 0 t := by
  unfold execSample at he
  refine whileRunning_keeps h he ?_
  split
  · exact TablesOwing.processSample (h.of_val rfl rfl le_rfl)
  · exact h


theorem execCalibrationEnd_keeps_tables (h : TablesOwing [] [] 0 s) (he : execCalibrationEnd s = .next t) :
    TablesOwing [] [] 0 t := by
  unfold execCalibrationEnd at he
  refine whileRunning_keeps h he ?_
  split
  · exact h.of_val rfl rfl le_rfl
  · exact h


theorem execBeatEdge_keeps_tables (h : TablesOwing [] [] 0 s) (he : execBeatEdge s = .next t) :
    TablesOwing [] [] 0 t := by
  unfold execBeatEdge at he
  refine whileRunning_keeps h he ?_
  split
  · exact TablesOwing.acceptBeat (h.of_val rfl rfl le_rfl)
  · exact h


theorem execBarEdge_keeps_tables (h : TablesOwing [] [] 0 s) (he : execBarEdge s = .next t) :
    TablesOwing [] [] 0 t := by
  unfold execBarEdge at he
  refine whileRunning_keeps h he ?_
  split
  · exact h.of_val rfl rfl le_rfl
  · exact h


theorem execLastRealBeatAbsent_keeps_tables (h : TablesOwing [] [] 0 s) (he : execLastRealBeatAbsent s = .next t) :
    TablesOwing [] [] 0 t := by
  unfold execLastRealBeatAbsent at he
  refine whileRunning_keeps h he ?_
  split
  · exact h.of_val rfl rfl le_rfl
  · exact h


theorem execDeadline_keeps_tables (h : TablesOwing [] [] 0 s) (he : execDeadline s = .next t) :
    TablesOwing [] [] 0 t := by
  unfold execDeadline at he
  refine whileRunning_keeps h he ?_
  split
  · exact h.meetDeadline
  · exact h


theorem execCutEdge_keeps_tables (h : TablesOwing [] [] 0 s) (he : execCutEdge s = .next t) :
    TablesOwing [] [] 0 t := by
  unfold execCutEdge at he
  refine whileRunning_keeps h he ?_
  split
  · exact TablesOwing.cutIfNormal (h.of_val rfl rfl le_rfl)
  · exact h


theorem execSettleExpiry_keeps_tables {n : Nat} (h : TablesOwing [] [] 0 s) (he : execSettleExpiry n s = .next t) :
    TablesOwing [] [] 0 t := by
  unfold execSettleExpiry at he
  refine whileRunning_keeps h he ?_
  split
  · split
    · split
      · exact h.becomeReady
      · exact h
    · exact h
    · exact h
  · exact h


theorem execReleaseExpiry_keeps_tables {v : Nat} (h : TablesOwing [] [] 0 s) (he : execReleaseExpiry v s = .next t) :
    TablesOwing [] [] 0 t := by
  unfold execReleaseExpiry at he
  refine whileRunning_keeps h he ?_
  split
  next hv =>
    split
    next hr =>
      split
      · have hsilent : s.val.voices[(⟨v, hv⟩ : Fin 48)].isSounding = false := by simp [Voice.isSounding, hr]
        have hset := setVoice_soundingTotal_of_same (v := ⟨v, hv⟩) (x := s.val.voices[v].freed) (s := s)
          (by rw [hsilent]; rfl)
        refine h.setVoice ?_ (fun _ _ => rfl) hset.le
        rw [h.listings_eq_zero hsilent]; exact Voice.freed_heldBy _
      · exact h
    · exact h
    · exact h
  · exact h


theorem execByteArrival_keeps_tables {b : Byte} {low : Bool} (h : TablesOwing [] [] 0 s)
    (he : execByteArrival b low s = .next t) :
    TablesOwing [] [] 0 t := by
  unfold execByteArrival at he
  refine whileRunning_keeps h he ?_
  exact h.completeFrame.takeByte


theorem execGap_keeps_tables (h : TablesOwing [] [] 0 s) (he : execGap s = .next t) :
    TablesOwing [] [] 0 t := by
  unfold execGap at he
  refine whileRunning_keeps h he ?_
  split
  · exact h.abandon
  · exact h


theorem execFrameComplete_keeps_tables (h : TablesOwing [] [] 0 s) (he : execFrameComplete s = .next t) :
    TablesOwing [] [] 0 t := by
  unfold execFrameComplete at he
  refine whileRunning_keeps h he ?_
  exact h.completeFrame


theorem execUnknownRequest_keeps_tables (h : TablesOwing [] [] 0 s) (he : execUnknownRequest s = .next t) :
    TablesOwing [] [] 0 t := by
  rcases takeRequest_cases he with rfl | ⟨f, rest, _, _, rfl⟩
  · exact h
  · exact h.of_val rfl rfl le_rfl


theorem execCalibrate_keeps_tables (h : TablesOwing [] [] 0 s) (he : execCalibrate s = .next t) :
    TablesOwing [] [] 0 t := by
  rcases takeRequest_cases he with rfl | ⟨f, rest, _, _, rfl⟩
  · exact h
  · split
    · exact h.of_val rfl rfl le_rfl
    · exact h.of_val rfl rfl le_rfl


theorem execReset_keeps_tables (h : TablesOwing [] [] 0 s) (he : execReset s = .next t) :
    TablesOwing [] [] 0 t := by
  rcases takeRequest_cases he with rfl | ⟨f, rest, _, _, rfl⟩
  · exact h
  · split
    · exact tablesOwing_softReset _
    · exact h.of_val rfl rfl le_rfl


theorem execWriteKeys_keeps_tables (h : TablesOwing [] [] 0 s) (he : execWriteKeys s = .next t) :
    TablesOwing [] [] 0 t := by
  unfold execWriteKeys at he
  refine whileRunning_keeps h he ?_
  obtain ⟨m, l, hw⟩ := takeWriteKeys_frame s
  rw [hw]; exact h.of_val rfl rfl le_rfl


theorem execTransmit_keeps_tables (h : TablesOwing [] [] 0 s) (he : execTransmit s = .next t) :
    TablesOwing [] [] 0 t := by
  unfold execTransmit at he
  refine whileRunning_keeps h he ?_
  split
  · exact h.chooseFrame
  · exact h


theorem execFrameSent_keeps_tables (h : TablesOwing [] [] 0 s) (he : execFrameSent s = .next t) :
    TablesOwing [] [] 0 t := by
  unfold execFrameSent at he
  refine whileRunning_keeps h he ?_
  split
  · exact h
  · exact TablesOwing.chooseFrame (h.of_val rfl rfl le_rfl)


theorem execCutLineSample_keeps_tables {b : Bool} (h : TablesOwing [] [] 0 s) (he : execCutLineSample b s = .next t) :
    TablesOwing [] [] 0 t := by
  unfold execCutLineSample at he
  refine whileRunning_keeps h he ?_
  split
  · exact h.of_val rfl rfl le_rfl
  · exact h


theorem execClickLineSample_keeps_tables {a b : Bool} (h : TablesOwing [] [] 0 s) (he : execClickLineSample a b s = .next t) :
    TablesOwing [] [] 0 t := by
  unfold execClickLineSample at he
  refine whileRunning_keeps h he ?_
  exact h.of_val rfl rfl le_rfl


/-! The owners of the requests that need a case split. -/

theorem TablesOwing.setScan {p : List Byte} (h : TablesOwing [] [] 0 s) : TablesOwing [] [] 0 (setScan p s).state := by
  unfold Machine.setScan; split
  · exact h
  · exact h.withKsc_of_down fun k => by rw [Scanner.record, Scanner.meetBoundary_down, Scanner.meetBoundary_down]

theorem TablesOwing.readKeys {p : List Byte} (h : TablesOwing [] [] 0 s) : TablesOwing [] [] 0 (readKeys p s).state := by
  unfold Machine.readKeys; dsimp only; split <;> exact h

theorem TablesOwing.readSection {p : List Byte} (h : TablesOwing [] [] 0 s) :
    TablesOwing [] [] 0 (readSection p s).state := by
  unfold Machine.readSection; split <;> exact h

theorem TablesOwing.writeLayer {p : List Byte} (h : TablesOwing [] [] 0 s) : TablesOwing [] [] 0 (writeLayer p s).state := by
  unfold Machine.writeLayer; dsimp only
  split
  · exact h
  · split
    · exact h.of_val rfl rfl le_rfl
    · exact h

theorem TablesOwing.readLayer {p : List Byte} (h : TablesOwing [] [] 0 s) : TablesOwing [] [] 0 (readLayer p s).state := by
  unfold Machine.readLayer; dsimp only
  split
  · split
    · exact h
    · split <;> exact h
  · exact h

theorem TablesOwing.setPresetFlags {p : List Byte} (h : TablesOwing [] [] 0 s) :
    TablesOwing [] [] 0 (setPresetFlags p s).state := by
  unfold Machine.setPresetFlags
  split
  · exact h
  · split
    · exact h.of_val rfl rfl le_rfl
    · exact h

end

/-- Every command keeps the laws of the tables. -/
theorem exec_keeps_tables (i : Instr) {s t : State} (h : TablesOwing [] [] 0 s) (he : exec i s = .next t) :
    TablesOwing [] [] 0 t := by
  cases i with
  | hardReset c => exact execHardReset_keeps_tables h he
  | resetRelease a b c => exact execResetRelease_keeps_tables h he
  | scanStart => exact execScanStart_keeps_tables h he
  | scanCompletion r => exact execScanCompletion_keeps_tables h he
  | scanBoundary => exact execScanBoundary_keeps_tables h he
  | reinitialisationWindowEnd => exact execReinitialisationWindowEnd_keeps_tables h he
  | sample p => exact execSample_keeps_tables h he
  | calibrationEnd => exact execCalibrationEnd_keeps_tables h he
  | beatEdge => exact execBeatEdge_keeps_tables h he
  | barEdge => exact execBarEdge_keeps_tables h he
  | lastRealBeatAbsent => exact execLastRealBeatAbsent_keeps_tables h he
  | deadline => exact execDeadline_keeps_tables h he
  | cutEdge => exact execCutEdge_keeps_tables h he
  | settleExpiry n => exact execSettleExpiry_keeps_tables h he
  | releaseExpiry v => exact execReleaseExpiry_keeps_tables h he
  | byteArrival b low => exact execByteArrival_keeps_tables h he
  | gap => exact execGap_keeps_tables h he
  | frameComplete => exact execFrameComplete_keeps_tables h he
  | unknownRequest => exact execUnknownRequest_keeps_tables h he
  | calibrate => exact execCalibrate_keeps_tables h he
  | writeKeys => exact execWriteKeys_keeps_tables h he
  | reset => exact execReset_keeps_tables h he
  | transmit => exact execTransmit_keeps_tables h he
  | frameSent => exact execFrameSent_keeps_tables h he
  | cutLineSample b => exact execCutLineSample_keeps_tables h he
  | clickLineSample a b => exact execClickLineSample_keeps_tables h he
  | setScan => exact TablesOwing.serve h he fun _ _ h => h.setScan
  | setBellows => exact TablesOwing.serve h he fun _ _ h => h.of_val rfl rfl le_rfl
  | setExpression => exact TablesOwing.serve h he fun _ _ h => h.of_val rfl rfl le_rfl
  | setClock => exact TablesOwing.serve h he fun _ _ h => h.of_val rfl rfl le_rfl
  | readKeys => exact TablesOwing.serve h he fun _ _ h => h.readKeys
  | writeSection => exact TablesOwing.serve h he fun _ _ h => h.writeSection
  | readSection => exact TablesOwing.serve h he fun _ _ h => h.readSection
  | sectionReady => exact TablesOwing.serve h he fun _ _ h => h.sectionReady
  | cutRequest => exact TablesOwing.serve h he fun _ _ h => h.cutIfNormal
  | resume => exact TablesOwing.serve h he fun _ _ h => h.resume
  | selectPreset => exact TablesOwing.serve h he fun _ _ h => h.selectRequest
  | cancelPending => exact TablesOwing.serve h he fun _ _ h => h.of_val rfl rfl le_rfl
  | writeLayer => exact TablesOwing.serve h he fun _ _ h => h.writeLayer
  | readLayer => exact TablesOwing.serve h he fun _ _ h => h.readLayer
  | setPresetFlags => exact TablesOwing.serve h he fun _ _ h => h.setPresetFlags
  | status => exact TablesOwing.serve h he fun _ _ h => h
  | clearFlags => exact TablesOwing.serve h he fun _ _ h => h.of_val rfl rfl le_rfl

/-! ### Every step -/

/-- Everything a step can do: carry out a command, with the part's own queue and counter moved on, or let a tick pass. -/
theorem step_cases {s t : State} (h : step s = .next t) :
    (∃ i picks pending, exec i { s with picks := picks, pending := pending } = .next t) ∨ t = passTick s := by
  unfold step at h
  split at h
  next c rest _ => exact .inl ⟨c, s.picks, rest, h⟩
  next hp =>
    unfold idle at h
    split at h
    next i _ => exact .inl ⟨i, s.picks + 1, s.pending, h⟩
    · exact .inr (by simpa using h.symm)

theorem TablesOwing.passTick {late : List (Fin 192)} {s : State} (h : TablesOwing late [] 0 s) :
    TablesOwing late [] 0 (passTick s) := by
  rcases passTick_cases s with ⟨_, _, he⟩ | ⟨_, he⟩ <;> rw [he]
  · exact h.of_val rfl rfl le_rfl
  · exact h

/-- Settles O56: with the work under way made part of the law (`TablesOwing`), every operation of every command keeps it. -/
theorem everyStepKeepsTheTables : Obligations.EveryStepKeepsTheTables := by
  intro s t hs hstep
  rw [tablesLawful_iff] at hs ⊢
  rcases step_cases hstep with ⟨i, picks, pending, he⟩ | rfl
  · exact exec_keeps_tables i (s := { s with picks := picks, pending := pending }) (hs.of_val rfl rfl le_rfl) he
  · exact hs.passTick

end Sys2Proof.Machine
end

section
/-! ## Scans: completion, filters and the routing of their events -/

namespace Sys2Proof.Machine

/-! ### What relations between states say of their blocks -/

section
variable {s t : State}

theorem NotesOnly.reg (h : NotesOnly s t) : t.reg = s.reg := by rw [NotesOnly] at h; rw [h]; rfl

theorem PlayOnly.inReset (h : PlayOnly s t) : t.inReset = s.inReset := by rw [PlayOnly] at h; rw [h]; rfl

theorem PlayOnly.ksc (h : PlayOnly s t) : t.ksc = s.ksc := by rw [PlayOnly] at h; rw [h]; rfl

end

/-! ### Completion -/

/-- The command carries a finished scan out. -/
theorem exec_scanCompletion {s : State} (h : s.scanFinished) (r : Readings) (w : Option Nat) :
    exec (.scanCompletion ⟨r, w⟩) s = .next (completeScan r w s) := by
  obtain ⟨hr, hscan, t, ht, hover⟩ := h
  have : s.scanOver = true := by
    simp only [State.scanOver, hscan, ht, Option.any_some, Bool.true_and, decide_eq_true_eq]
    exact hover
  have harm : exec (.scanCompletion ⟨r, w⟩) s = execScanCompletion ⟨r, w⟩ s := rfl
  rw [harm, execScanCompletion, whileRunning_of_running hr, if_pos this]

/-- A scan that a window covers only counts it down (R13). -/
theorem completeScan_of_window {s : State} {left : Nat} (h : s.ksc.window = some (left + 1)) (r : Readings)
    (w : Option Nat) : completeScan r w s = s.withKsc (s.ksc.windowed left) := by
  unfold completeScan; rw [h]

/-- Outside a window the filters take their readings and the events are routed (R3, R5). -/
theorem completeScan_of_no_window {s : State} (h : s.ksc.window = none) (r : Readings) (w : Option Nat) :
    completeScan r w s = routeEvents w (keyEvents r s.ksc) (s.withKsc (s.ksc.filtered r)) := by
  unfold completeScan; rw [h]

/-- Settles O11: the scanner of a covered scan is `Scanner.windowed`, and no event is routed. -/
theorem scanInAWindowMakesNoEvent : Obligations.ScanInAWindowMakesNoEvent := by
  intro s r w left hf hw
  refine ⟨s.withKsc (s.ksc.windowed left), ?_, rfl, rfl, rfl, fun k => ?_⟩
  · rw [exec_scanCompletion hf, completeScan_of_window hw]
  · simp [Scanner.windowed]

/-! ### Filters -/

/-- The table of R3, with the count's limit as the rules write it. -/
theorem KeyFilter.update_eq (n : Nat) (closed : Bool) (f : KeyFilter) :
    f.update n closed =
      if closed = f.down then { down := f.down, count := 0 }
      else if f.count + 1 < n then { down := f.down, count := f.count + 1 } else { down := closed, count := 0 } := by
  unfold KeyFilter.update KeyFilter.ripe
  by_cases hc : closed = f.down
  · simp [hc]
  · by_cases hn : f.count + 1 < n
    · simp [hc, hn]
    · simp [hc, hn]

theorem KeyFilter.turns_eq (n : Nat) (closed : Bool) (f : KeyFilter) :
    f.turns n closed = decide (closed ≠ f.down ∧ n ≤ f.count + 1) := by
  by_cases h : closed = f.down <;> simp [KeyFilter.turns, KeyFilter.ripe, h]

/-- The keys whose filters a scan turns, in ascending key id (R3, R5). -/
def turnedKeys (r : Readings) (k : Scanner) : List (Fin 192) :=
  (List.finRange 192).filter fun i => decide (closedIn r i ≠ k.filters[i].down ∧ k.agreement ≤ k.filters[i].count + 1)

/-- The event of a key that a scan turns (R5). -/
def turnEvent (r : Readings) (i : Fin 192) : KeyEvent := { key := i, press := closedIn r i }

theorem keyEvents_eq_turned (r : Readings) (k : Scanner) : keyEvents r k = (turnedKeys r k).map (turnEvent r) := by
  rw [keyEvents_eq, turnedKeys]
  simp only [KeyFilter.turns_eq]
  rfl

theorem turnedKeys_eq_nil {r : Readings} {k : Scanner}
    (h : ∀ i : Fin 192, closedIn r i = k.filters[i].down ∨ k.filters[i].count + 1 < k.agreement) :
    turnedKeys r k = [] := by
  refine List.filter_eq_nil_iff.mpr fun i _ => ?_
  rw [decide_eq_true_eq]
  rintro ⟨hne, hle⟩
  rcases h i with he | hlt
  · exact hne he
  · omega

theorem exec_writeKeys {s : State} (h : s.inReset = none) : exec .writeKeys s = .next (takeWriteKeys s) :=
  whileRunning_of_running h

/-- Settles O12, with the filtered scanner as the state before the first event, and the frame of routing for what no event
changes. -/
theorem scanUpdatesEveryFilter : Obligations.ScanUpdatesEveryFilter := by
  intro s r hf hw
  show let turned := turnedKeys r s.ksc; let route := fun (x : State) k => routeEvent x (turnEvent r k); _
  intro turned route
  have hroute : ∀ (l : List (Fin 192)) (x : State), l.foldl route x = (l.map (turnEvent r)).foldl routeEvent x :=
    fun l x => List.foldl_map.symm
  have hplay : ∀ (l : List (Fin 192)) (x : State), PlayOnly x (l.foldl route x) := fun l x => by
    rw [hroute]; exact routeEvents_playOnly _ x
  obtain ⟨c, hc⟩ : ∃ c, c = s.ksc.filtered r := ⟨_, rfl⟩
  have hexec : ∀ w, exec (.scanCompletion ⟨r, w⟩) s =
      .next (routeEvents w (turned.map (turnEvent r)) (s.withKsc c)) := fun w => by
    rw [exec_scanCompletion hf, completeScan_of_no_window hw, keyEvents_eq_turned, hc]
  have hnone : exec (.scanCompletion ⟨r, none⟩) s = .next (turned.foldl route (s.withKsc c)) := by
    rw [hexec, hroute]; rfl
  have hsome : ∀ n, exec (.scanCompletion ⟨r, some n⟩) s =
      .next ((turned.drop n).foldl route (takeWriteKeys ((turned.take n).foldl route (s.withKsc c)))) := fun n => by
    rw [hexec, hroute, hroute, List.map_take, List.map_drop]; rfl
  have hruns : ∀ l : List (Fin 192), (l.foldl route (s.withKsc c)).inReset = none := fun l =>
    (hplay l _).inReset.trans hf.1
  refine ⟨s.withKsc c, ?_, fun k => ?_, hnone, (hplay turned _).ksc, hplay turned _, fun hall => ?_,
    fun n => ⟨_, exec_writeKeys (hruns _), hsome n⟩⟩
  · rw [hc]; rfl
  · rw [State.withKsc_ksc, hc, Scanner.filtered_get, KeyFilter.update_eq]; rfl
  · have hturned : turned = [] := turnedKeys_eq_nil hall
    rw [hnone, hturned]; rfl

/-! ### One event -/

/-- The only key whose filter turns makes the only event. -/
theorem keyEvents_of_single {r : Readings} {k : Scanner} {i : Fin 192}
    (h : ∀ j : Fin 192, (closedIn r j ≠ k.filters[j].down ∧ k.agreement ≤ k.filters[j].count + 1) ↔ j = i) :
    keyEvents r k = [turnEvent r i] := by
  have : turnedKeys r k = [i] := by
    unfold turnedKeys
    simp only [h]
    have hcount : (List.finRange 192).count i = 1 := List.count_eq_one_of_mem (List.nodup_finRange 192) (List.mem_finRange i)
    have := List.filter_beq (l := List.finRange 192) i
    rw [hcount] at this
    exact this
  rw [keyEvents_eq_turned, this]; rfl

/-- A commit leaves the state that R105 and R140 describe. -/
theorem commit_eq_afterCommit (p : Fin 16) (c : Condition) (o : Origin) (s : State) :
    commit p c o s = s.afterCommit p c o := by
  have hdone : QueueOnly (s.withReg { s.reg with active := s.reg.store[p].layers, activePreset := some p, slot := none })
      (commitLayers p c o s) := offerGeneral_queueOnly _ _
  have hreg : (commitLayers p c o s).reg.store = s.reg.store := by rw [QueueOnly] at hdone; rw [hdone]; rfl
  have hblu : (commitLayers p c o s).blu = s.blu := by rw [QueueOnly] at hdone; rw [hdone]; rfl
  have hrevoice : ∀ d t, revoice d t = t.reattacked .revoice .revoice d := fun d t => List.foldl_map
  unfold commit State.afterCommit; dsimp only
  rw [hreg, hrevoice, State.attackSide, hblu]
  rfl

/-- A commit's changes to the Registration Unit (R105). -/
theorem commit_reg (p : Fin 16) (c : Condition) (o : Origin) (s : State) :
    (commit p c o s).reg = { s.reg with active := s.reg.store[p].layers, activePreset := some p, slot := none } := by
  have hdone : (commitLayers p c o s).reg =
      { s.reg with active := s.reg.store[p].layers, activePreset := some p, slot := none } :=
    (offerGeneral_queueOnly _ _).notices.notes.reg
  unfold commit; dsimp only; split
  · rw [(revoice_notesOnly _ _).reg, hdone]
  · exact hdone

section
variable {k : Fin 192} {s : State}

theorem routePress_of_unused (h : s.imap[k].cls = .unused) : routePress k s = s := by unfold routePress; rw [h]

theorem routePress_of_register (h : s.imap[k].cls = .register) : routePress k s = pressSwitch k s := by
  unfold routePress; rw [h]

theorem routePress_of_playing (hu : s.imap[k].cls ≠ .unused) (hr : s.imap[k].cls ≠ .register) :
    routePress k s = press k s := by
  unfold routePress
  cases hc : s.imap[k].cls
  case unused => exact absurd hc hu
  case register => exact absurd hc hr
  all_goals rfl

theorem pressSwitch_of_normal (h : s.scn.cut = false) :
    pressSwitch k s = select s.imap[k].preset s.imap[k].condition .switch s := by
  simp [pressSwitch, h]

theorem press_of_cut (h : s.scn.cut = true) : press k s = s := by simp [press, h]

theorem press_of_full (h : s.scn.cut = false) (hfull : 24 ≤ s.val.held.length) : press k s = raiseFlag .keyFull s := by
  have : heldSize ≤ s.val.held.length := hfull
  simp [press, h, this]

theorem press_of_room (h : s.scn.cut = false) (hroom : s.val.held.length < 24) :
    press k s = attack k s.attackSide .press (setHeld (insertHeld ⟨k, s.attackSide, []⟩ s.val.held) s) := by
  have : ¬ heldSize ≤ s.val.held.length := Nat.not_le.mpr hroom
  simp [press, h, this]

/-- KEYFULL has no counter: its bit of the sticky flag byte is all that an occurrence sets (R185). -/
theorem raiseFlag_keyFull_stu (s : State) :
    (raiseFlag .keyFull s).stu = { s.stu with sticky := s.stu.sticky ||| 0x80 } := by
  have hbit : ∀ b : Byte, b.getLsbD 7 = true → b ||| 0x80 = b := by decide
  rw [raiseFlag_sticky]
  split
  next h => rw [hbit _ h]; rfl
  · rfl

/-- A pressed key that is entered stands in the table with its attack direction when the attack is done. -/
theorem exists_held_attack {d : Side} {c : NoteOnCause} {t : State} (h : (⟨k, d, []⟩ : HeldKey) ∈ t.val.held) :
    ∃ x ∈ (attack k d c t).val.held, x.key = k ∧ x.side = d := by
  have hm : (k, d) ∈ (attack k d c t).heldSides := by
    rw [attack_sidesKept k d c t]
    exact List.mem_map.mpr ⟨_, h, rfl⟩
  obtain ⟨x, hx, he⟩ := List.mem_map.mp hm
  exact ⟨x, hx, congrArg Prod.fst he, congrArg Prod.snd he⟩

/-- The release of a key that is not held does nothing (R8, R132). -/
theorem routeRelease_of_not_held (h : ∀ x ∈ s.val.held, x.key ≠ k) : routeRelease k s = s := by
  have he : s.heldEntry k = none := heldEntry_eq_none.mpr fun hk => by
    obtain ⟨x, hx, he⟩ := mem_heldKeys.mp hk
    exact h x hx he
  rcases routeRelease_cases k s with hr | ⟨_, hr⟩ <;> rw [hr]
  unfold release; rw [he]

/-- The release of a held key takes its entry out and releases its voices in list order (R132). -/
theorem routeRelease_of_held {x : HeldKey} (h : s.heldEntry k = some x) :
    routeRelease k s = releasePairs .release x.pairs (setHeld (s.val.held.filter fun y => y.key != k) s) := by
  have hheld : s.isHeld k = true := by simp [State.isHeld, h]
  unfold routeRelease release
  rw [hheld, h]; rfl

end

/-- Settles O13: the one event is routed on the filtered scanner, and each class has its equation. -/
theorem oneKeyEventIsRoutedByClass : Obligations.OneKeyEventIsRoutedByClass := by
  intro s r k hf hw hone
  have hexec : exec (.scanCompletion ⟨r, none⟩) s = .next (routeEvent (s.withKsc (s.ksc.filtered r)) (turnEvent r k)) := by
    rw [exec_scanCompletion hf, completeScan_of_no_window hw, keyEvents_of_single hone]; rfl
  have hksc := routeEvent_ksc (s.withKsc (s.ksc.filtered r)) (turnEvent r k)
  refine ⟨_, hexec, fun hpress => ?_, fun hrelease => ?_⟩
  · have hroute : routeEvent (s.withKsc (s.ksc.filtered r)) (turnEvent r k) = routePress k (s.withKsc (s.ksc.filtered r)) :=
      if_pos hpress
    rw [hksc, State.withKsc_ksc, hroute]
    generalize s.ksc.filtered r = c
    refine ⟨fun hu => routePress_of_unused hu, fun hr => ?_, fun hu hr => ?_⟩
    · rw [routePress_of_register (s := s.withKsc c) hr]
      refine ⟨fun hcut => if_pos hcut, fun hcut w hcond => ?_, fun hcut hcond => ?_⟩
      · rw [pressSwitch_of_normal (s := s.withKsc c) hcut]
        show select _ s.imap[k].condition _ _ = _
        rw [hcond]; rfl
      · rw [pressSwitch_of_normal (s := s.withKsc c) hcut]
        show select _ s.imap[k].condition _ _ = _ ∧ (select _ s.imap[k].condition _ _).reg = _
        rw [hcond]
        exact ⟨commit_eq_afterCommit _ _ _ _, commit_reg _ _ _ _⟩
    · rw [routePress_of_playing (s := s.withKsc c) hu hr]
      refine ⟨fun hcut => press_of_cut hcut, fun hcut hfull => ?_, fun hcut hroom => ?_⟩
      · rw [press_of_full (s := s.withKsc c) hcut hfull]
        exact ⟨raiseFlag_noticesOnly _ _, raiseFlag_keyFull_stu _⟩
      · intro side
        rw [press_of_room (s := s.withKsc c) hcut hroom]
        refine ⟨?_, exists_held_attack (mem_insertHeld.mpr (.inl rfl))⟩
        rw [insertHeld_eq]; rfl
  · have hroute : routeEvent (s.withKsc (s.ksc.filtered r)) (turnEvent r k) = routeRelease k (s.withKsc (s.ksc.filtered r)) :=
      if_neg (Bool.eq_false_iff.mp hrelease)
    rw [hksc, State.withKsc_ksc, hroute]
    generalize s.ksc.filtered r = c
    refine ⟨fun hnot => routeRelease_of_not_held hnot, fun x hx => ?_⟩
    have hrel := routeRelease_of_held (s := s.withKsc c) hx
    refine ⟨hrel, fun y hy => ?_, ?_⟩
    · rw [hrel, releasePairs_held] at hy
      simpa using (List.mem_filter.mp hy).2
    · rw [hrel, (releasePairs_notesOnly _ _ _).reg]; rfl

end Sys2Proof.Machine
end

section
/-! ## Reset, the cycle of scans and SetScan -/

namespace Sys2Proof.Machine

/-! ### Reset -/

/-- Settles O3: each block's reset value read off the reset tables of the model. -/
theorem resetHoldsTheHardResetValues : Obligations.ResetHoldsTheHardResetValues := by
  refine ⟨⟨rfl, rfl, rfl, rfl⟩, ⟨fun k => ?_, rfl, rfl, rfl, rfl, rfl, rfl, rfl⟩, fun k => ?_, rfl,
    ⟨rfl, rfl, rfl, rfl, rfl, rfl, rfl, rfl, rfl, rfl, fun n => ?_⟩, rfl,
    ⟨fun n => ⟨?_, ?_⟩, rfl, rfl, rfl, rfl, rfl⟩, ⟨fun p l => ⟨?_, ?_⟩, fun l => ?_, rfl, rfl⟩, ⟨fun v => ?_, rfl, rfl⟩,
    ⟨rfl, fun n => ⟨?_, ?_⟩, rfl⟩, rfl, rfl⟩
  · simp [State.reset, State.released, hardScanner]
  · simp [State.reset, State.released, hardMap, hardKeyEntry]
  · simp [State.reset, State.released, hardExpression, defaultCurve]
  · simp [State.reset, State.released, hardSections, hardRecord, defaultCurve]
  · simp [State.reset, State.released, hardSections]
  · simp [State.reset, State.released, hardRegistration, hardLayer]
  · simp [State.reset, State.released, hardRegistration]
  · simp [State.reset, State.released, hardRegistration, hardLayer]
  · simp [State.reset, State.released, hardAllocator]
  · simp [State.reset, State.released, hardQueue]
  · simp [State.reset, State.released, hardQueue]

theorem defaultCurve_legal : CurveLegal defaultCurve := by decide

theorem reset_voice (v : Fin 48) :
    State.reset.val.voices[v] = { state := .free, sect := 0, pitch := 0, holders := 0, serial := 0 } := by
  simp [State.reset, State.released, hardAllocator]

theorem reset_record (n : Fin 8) : State.reset.scn.records[n] = hardRecord := by
  simp [State.reset, State.released, hardSections]

theorem reset_dynamics (n : Fin 8) :
    State.reset.exu.sections[n] = { curve := defaultCurve, boost := 0, level := 0, last := 0 } := by
  simp [State.reset, State.released, hardExpression]

/-- The one entry that waits after a power-on reset (R158). -/
theorem reset_entries : State.reset.evq.entries = [{ report := .started .power, due := 0, order := 0 }] := rfl

theorem reset_soundingIn (n : Fin 8) : State.reset.soundingIn n = 0 := by
  refine List.countP_eq_zero.mpr fun x hx => ?_
  have : x = { state := .free, sect := 0, pitch := 0, holders := 0, serial := 0 } := by
    simpa [State.reset, State.released, hardAllocator] using hx
  rw [this]; exact Bool.false_ne_true

theorem reset_ahead (n : Fin 8) : State.reset.evq.ahead[n] = false := by
  simp [State.reset, State.released, hardQueue]

theorem reset_voicesLawful : VoicesLawful State.reset := by
  refine ⟨fun v _ hv => absurd (by rw [reset_voice]) hv, fun v hv => absurd (by rw [reset_voice]) hv, fun n => ?_⟩
  rw [reset_soundingIn, reset_record]
  exact ⟨by decide, Nat.zero_le _⟩

theorem reset_levelsInRange : LevelsInRange State.reset := by
  refine ⟨by decide, by decide, rfl, by decide, fun n => ?_, fun n => ?_⟩
  · rw [reset_dynamics]; exact ⟨by decide, by decide, defaultCurve_legal⟩
  · rw [reset_record]; exact defaultCurve_legal

theorem reset_handlerLegal : HandlerLegal State.reset :=
  ⟨by decide, ⟨fun h => absurd h (by decide), fun ⟨_, h⟩ => nomatch h⟩, by decide⟩

theorem reset_dynamicsSingle : DynamicsSingle State.reset := by
  intro n; rw [reset_entries]; revert n; decide

theorem reset_queueOrdered : QueueOrdered State.reset := by
  rw [QueueOrdered, reset_entries]; exact List.pairwise_singleton ..

theorem reset_duesLawful : DuesLawful State.reset := by
  refine ⟨by rw [reset_entries]; decide, fun n => ?_, fun n hn => ?_, fun e he n hn => ?_⟩
  · rw [reset_record]; decide
  · rw [reset_ahead] at hn; cases hn
  · rw [reset_entries, List.mem_singleton] at he
    subst he; cases hn

/-- Settles O4: at reset no key is held, no voice is live and one general report waits, due now. -/
theorem lawsHoldAtReset : Obligations.LawsHoldAtReset :=
  ⟨fun hcut => absurd hcut (by decide), tablesLawful_iff.mpr (tablesOwing_released ..), reset_voicesLawful,
    reset_levelsInRange, by decide, by decide, reset_handlerLegal, reset_dynamicsSingle, reset_queueOrdered,
    reset_duesLawful⟩

/-- Settles O5: the three cases are those of the cause that stands already. -/
theorem hardResetStopsFrameAndScan : Obligations.HardResetStopsFrameAndScan := by
  intro c s stopped
  have hexec : exec (.hardReset c) s = .next (stopped (resetCauseAfter s.inReset c)) := rfl
  refine ⟨fun h => ?_, fun h => ?_, fun h => ?_⟩ <;> rw [hexec, h] <;> rfl

/-- Settles O6: every command but the two of the hard reset is an effect on a running part. -/
theorem nothingHappensWhileResetIsLow : Obligations.NothingHappensWhileResetIsLow := by
  intro i s c hc hhard hrelease
  cases i
  case hardReset d => exact absurd rfl (hhard d)
  case resetRelease a b d => exact absurd rfl (hrelease a b d)
  all_goals simp only [exec]; exact whileRunning_of_reset hc

/-! ### The cycle of scans -/

theorem Scanner.boundaryDue_iff {k : Scanner} :
    k.boundaryDue = true ↔ k.scanning = false ∧ (k.recPeriod ≠ k.period ∨ k.recAgreement ≠ k.agreement) := by
  simp [Scanner.boundaryDue, bne_iff_ne]

theorem Scanner.meetBoundary_of_due {k : Scanner} (h : k.boundaryDue = true) : k.meetBoundary = k.applySettings := if_pos h

theorem Scanner.meetBoundary_of_not_due {k : Scanner} (h : ¬ k.boundaryDue = true) : k.meetBoundary = k := if_neg h

/-- When a scan start has come (R2, R11). -/
theorem scanDue_iff {s : State} :
    s.scanDue = true ↔ s.ksc.scanning = false ∧ s.ksc.boundaryDue = false ∧
      ∀ t, s.ksc.lastStart = some t → s.reached (t + BitVec.ofNat 32 s.ksc.period) := by
  unfold State.scanDue
  cases s.ksc.lastStart <;> simp [hasCome, wrapDiff, State.reached, and_assoc]

theorem exec_scanStart {s : State} (h : s.inReset = none) :
    exec .scanStart s = .next (if s.scanDue = true then startScan s else s) := by
  show execScanStart s = _
  rw [execScanStart, whileRunning_of_running h]

theorem exec_scanBoundary {s : State} (h : s.inReset = none) :
    exec .scanBoundary s = .next (s.withKsc s.ksc.meetBoundary) := by
  show execScanBoundary s = _
  rw [execScanBoundary, whileRunning_of_running h]

theorem exec_reinitialisationWindowEnd {s : State} (h : s.inReset = none) :
    exec .reinitialisationWindowEnd s =
      .next (if s.ksc.windowOver = true then s.withKsc { s.ksc with window := none } else s) := by
  show execReinitialisationWindowEnd s = _
  rw [execReinitialisationWindowEnd, whileRunning_of_running h]

/-- Settles O9: with the settings in force no boundary is due, and the start hangs on the last start alone. -/
theorem scanStartsOnePeriodAfterTheLast : Obligations.ScanStartsOnePeriodAfterTheLast := by
  intro s hrun hidle hperiod hagreement
  have hnoBoundary : s.ksc.boundaryDue = false := by
    rw [← Bool.not_eq_true, Scanner.boundaryDue_iff]; simp [hperiod, hagreement]
  rw [exec_scanStart hrun]
  refine ⟨fun hfirst => ?_, fun t ht => ⟨fun hcome => ?_, fun hcome => ?_⟩⟩
  · rw [if_pos (scanDue_iff.mpr ⟨hidle, hnoBoundary, by simp [hfirst]⟩)]; rfl
  · rw [if_pos (scanDue_iff.mpr ⟨hidle, hnoBoundary, by rintro _ h; cases ht.symm.trans h; exact hcome⟩)]; rfl
  · rw [if_neg fun h => hcome ((scanDue_iff.mp h).2.2 t ht)]

/-! ### SetScan -/

/-- The periods that R10 takes, with what each gives. -/
theorem periodOf_eq (recorded : Nat) (p : Nat) :
    periodOf recorded p = if p ∈ [0, 5, 10, 20] then some (if p = 0 then recorded else p) else none := by
  unfold periodOf
  by_cases h : p = 0 <;> simp [h]

theorem agreementOf_eq (recorded a : Nat) : agreementOf recorded a = if a = 0 then recorded else max 2 (min 4 a) := by
  unfold agreementOf clampNat
  split
  · rfl
  · split
    · omega
    · split <;> omega

/-- A SetScan that is offered goes to the scanner (R10, R174). -/
theorem exec_setScan_of_offers {s : State} {tag p a : Byte} {rest : List Frame} (h : s.offers 0x01 tag [p, a] rest) :
    exec .setScan s =
      .next (reply { kind := 0x01, tag := tag, payload := [p, a] }
        (setScan [p, a] { s with lnk := { s.lnk with inbound := rest } })) := serve_of_offers h rfl

/-- A period that R10 takes: the resulting values are recorded and answered. -/
theorem exec_setScan_of_legal {s : State} {tag p a : Byte} {rest : List Frame} {period n : Nat}
    (h : s.offers 0x01 tag [p, a] rest) (hp : p.toNat ∈ [0, 5, 10, 20])
    (hperiod : (if p.toNat = 0 then s.ksc.recPeriod else p.toNat) = period)
    (hn : (if a.toNat = 0 then s.ksc.recAgreement else max 2 (min 4 a.toNat)) = n) :
    exec .setScan s =
      .next { s with
        ksc := s.ksc.record period n
        lnk :=
          s.lnk.answered rest 0x01 tag (if a.toNat = 0 ∨ n = a.toNat then 0x00 else 0x01)
            [BitVec.ofNat 8 period, BitVec.ofNat 8 n] } := by
  have hperiod' : periodOf s.ksc.recPeriod p.toNat = some period := by rw [periodOf_eq, if_pos hp, hperiod]
  have hn' : agreementOf s.ksc.recAgreement a.toNat = n := (agreementOf_eq ..).trans hn
  have hstatus : BitVec.ofNat 8 (statusCode (doneOrClamped (a.toNat != 0 && n != a.toNat))) =
      if a.toNat = 0 ∨ n = a.toNat then 0x00 else 0x01 := by
    unfold doneOrClamped
    by_cases ha : a.toNat = 0
    · simp [ha, statusCode]
    · by_cases hna : n = a.toNat <;> simp [ha, hna, statusCode]
  rw [exec_setScan_of_offers h, ← hstatus, setScan]
  simp only [byteAt, List.getD_cons_zero, List.getD_cons_succ, hperiod', hn']
  rfl

/-- Any other period is refused (R10). -/
theorem exec_setScan_of_illegal {s : State} {tag p a : Byte} {rest : List Frame} (h : s.offers 0x01 tag [p, a] rest)
    (hp : p.toNat ∉ [0, 5, 10, 20]) :
    exec .setScan s = .next { s with lnk := s.lnk.answered rest 0x01 tag 0x12 [p, a] } := by
  have hperiod : periodOf s.ksc.recPeriod p.toNat = none := by rw [periodOf_eq, if_neg hp]
  rw [exec_setScan_of_offers h, setScan]
  simp only [byteAt, List.getD_cons_zero, hperiod]
  rfl

/-- A boundary changes neither the recorded settings nor the scan in progress, so what a record reads of the scanner is the same
before and after it. -/
theorem Scanner.record_meetBoundary (period n : Nat) (k : Scanner) : k.meetBoundary.record period n = k.record period n := by
  have : k.meetBoundary.meetBoundary = k.meetBoundary := meetBoundary_of_not_due (by simp)
  rw [Scanner.record, this, Scanner.record]

/-- Settles O10: the boundary is `Scanner.meetBoundary`, which a SetScan runs first too. -/
theorem boundaryOpensAWindowAndTheWindowEnds : Obligations.BoundaryOpensAWindowAndTheWindowEnds := by
  intro s hrun
  rw [exec_scanBoundary hrun, exec_reinitialisationWindowEnd hrun]
  refine ⟨fun hidle hdiffer => ?_, fun hscan => ?_, fun hp ha => ?_, fun hw => ?_, fun hw => ?_⟩
  · have hdue : s.ksc.meetBoundary = s.ksc.applySettings :=
      Scanner.meetBoundary_of_due (Scanner.boundaryDue_iff.mpr ⟨hidle, hdiffer⟩)
    refine ⟨s.withKsc s.ksc.meetBoundary, rfl, rfl, ?_⟩
    rw [State.withKsc_ksc]
    refine ⟨by rw [hdue]; rfl, by rw [hdue]; rfl, by simp, by simp, by rw [hdue]; rfl, by simp [hidle], by rw [hdue]; rfl,
      fun k => ?_, fun tag p a rest ho hp => ?_⟩
    · rw [hdue]; simp [Scanner.applySettings]
    · have ho' : (s.withKsc s.ksc.meetBoundary).offers 0x01 tag [p, a] rest := ho
      rw [exec_setScan_of_legal ho hp rfl rfl,
        exec_setScan_of_legal ho' hp (by rw [State.withKsc_ksc, Scanner.meetBoundary_recPeriod])
          (by rw [State.withKsc_ksc, Scanner.meetBoundary_recAgreement]),
        State.withKsc_ksc, Scanner.record_meetBoundary]
      rfl
  · rw [Scanner.meetBoundary_of_not_due (by simp [Scanner.boundaryDue_iff, hscan])]; rfl
  · rw [Scanner.meetBoundary_of_not_due (by simp [Scanner.boundaryDue_iff, hp, ha])]; rfl
  · rw [if_pos (by simp [Scanner.windowOver, hw])]; rfl
  · rw [if_neg (by simp [Scanner.windowOver, hw])]

theorem Scanner.meetBoundary_lastStart (k : Scanner) : k.meetBoundary.lastStart = k.lastStart := by
  unfold Scanner.meetBoundary; split <;> rfl

/-- With the settings in force recorded, a record of the same values changes nothing. -/
theorem Scanner.record_of_same {k : Scanner} (hp : k.recPeriod = k.period) (ha : k.recAgreement = k.agreement) :
    k.record k.period k.agreement = k := by
  have hk : k.meetBoundary = k := meetBoundary_of_not_due (by simp [boundaryDue_iff, hp, ha])
  have hsame : { k with recPeriod := k.period, recAgreement := k.agreement } = k := by
    cases k; cases hp; cases ha; rfl
  rw [Scanner.record, hk]
  exact (congrArg meetBoundary hsame).trans hk

/-- With the settings in force recorded and no scan in progress, other values come into force at once and open a window
(R11). -/
theorem Scanner.record_of_differing {k : Scanner} {period n : Nat} (hidle : k.scanning = false) (hp : k.recPeriod = k.period)
    (ha : k.recAgreement = k.agreement) (h : ¬ (period = k.period ∧ n = k.agreement)) :
    k.record period n =
      { k with
        period := period, agreement := n, recPeriod := period, recAgreement := n, window := some n
        filters := k.filters.map fun f => { f with count := 0 } } := by
  have hk : k.meetBoundary = k := meetBoundary_of_not_due (by simp [boundaryDue_iff, hp, ha])
  have hdue : ({ k with recPeriod := period, recAgreement := n } : Scanner).boundaryDue = true :=
    boundaryDue_iff.mpr ⟨hidle, by simp only [ne_eq]; tauto⟩
  rw [Scanner.record, hk]
  exact meetBoundary_of_due hdue

theorem Scanner.record_recPeriod (period n : Nat) (k : Scanner) : (k.record period n).recPeriod = period :=
  meetBoundary_recPeriod _

theorem Scanner.record_recAgreement (period n : Nat) (k : Scanner) : (k.record period n).recAgreement = n :=
  meetBoundary_recAgreement _

theorem Scanner.record_scanning (period n : Nat) (k : Scanner) : (k.record period n).scanning = k.scanning :=
  (meetBoundary_scanning _).trans (meetBoundary_scanning k)

theorem Scanner.record_lastStart (period n : Nat) (k : Scanner) : (k.record period n).lastStart = k.lastStart :=
  (meetBoundary_lastStart _).trans (meetBoundary_lastStart k)

/-- Settles O14: a legal period gives `Scanner.record` of the resulting values, any other a refusal. -/
theorem setScanRecordsTheSettings : Obligations.SetScanRecordsTheSettings := by
  intro s tag p a rest ho period n
  refine ⟨fun hp => ⟨_, exec_setScan_of_legal ho hp rfl rfl, rfl, Scanner.record_recPeriod ..,
    Scanner.record_recAgreement .., Scanner.record_scanning .., Scanner.record_lastStart .., Scanner.record_of_scanning, fun hidle hpe ha => ⟨?_, ?_⟩⟩,
    fun hp => exec_setScan_of_illegal ho hp⟩
  · rintro ⟨hsame, hsame'⟩
    show s.ksc.record period n = s.ksc
    rw [hsame, hsame', Scanner.record_of_same hpe ha]
  · exact Scanner.record_of_differing hidle hpe ha

end Sys2Proof.Machine
end

section
/-! ## The part's own events -/

namespace Sys2Proof.Machine

section
variable {s : State} {i : Instr}

/-! ### When each event is due -/

theorem hasCome_iff {t : Tick} : hasCome s.tick t = true ↔ s.reached t := by
  simp [hasCome, wrapDiff, State.reached]

/-- A calibration ends when the collection of the Calibrate in flight is full (R32). -/
theorem calibrationDue_iff :
    s.calibrationDue.isSome = true ↔
      (∃ tag, s.lnk.handler = .inFlight tag) ∧ ∃ c, s.blu.collection = some c ∧ 64 ≤ c.count := by
  unfold State.calibrationDue
  cases s.lnk.handler <;> cases s.blu.collection <;> simp [Option.isSome_ite]
  rfl

theorem windowOver_iff : s.ksc.windowOver = true ↔ s.ksc.window = some 0 := by simp [Scanner.windowOver]

/-- The closing events are those that the rules let close what has just happened. -/
theorem mem_closingEvents : i ∈ s.closingEvents ↔ s.closes i := by
  simp only [State.closingEvents, List.mem_append, mem_dueWhen, calibrationDue_iff, windowOver_iff, Scanner.boundaryDue_iff]
  cases i <;> simp only [State.closes, reduceCtorEq, and_false, false_or, or_false, and_true]

theorem deadlineDue_iff : s.deadlineDue = true ↔ ∃ d, s.tck.deadline = some d ∧ s.reached d := by
  simp [State.deadlineDue, Option.any_eq_true, hasCome_iff]

theorem beatAbsentDue_iff :
    s.beatAbsentDue = true ↔ ∃ t, s.tck.lastReal = some t ∧ 20001 ≤ (s.tick - t).toInt := by
  simp [State.beatAbsentDue, Option.any_eq_true, wrapDiff]

theorem mem_settleDue :
    i ∈ s.settleDue ↔
      ∃ m, i = .settleExpiry m ∧ ∃ (n : Fin 8) (t : Tick), n.val = m ∧ s.scn.readiness[n] = .settling t ∧ s.reached t := by
  have hdue : ∀ n : Fin 8, (match s.scn.readiness[n] with
      | .settling t => hasCome s.tick t
      | .off | .ready => false) = true ↔ ∃ t, s.scn.readiness[n] = .settling t ∧ s.reached t := fun n => by
    cases s.scn.readiness[n] <;> simp [hasCome_iff]
  unfold State.settleDue
  rw [List.mem_map]
  constructor
  · rintro ⟨n, hn, rfl⟩
    obtain ⟨t, ht⟩ := (hdue n).mp (List.mem_filter.mp hn).2
    exact ⟨n, rfl, n, t, rfl, ht⟩
  · rintro ⟨_, rfl, n, t, rfl, ht⟩
    exact ⟨n, List.mem_filter.mpr ⟨List.mem_finRange n, (hdue n).mpr ⟨t, ht⟩⟩, rfl⟩

theorem mem_releaseDue :
    i ∈ s.releaseDue ↔
      ∃ m, i = .releaseExpiry m ∧
        ∃ (v : Fin 48) (t : Tick), v.val = m ∧ s.val.voices[v].state = .releasing t ∧ s.reached t := by
  have hdue : ∀ v : Fin 48, (match s.val.voices[v].state with
      | .releasing t => hasCome s.tick t
      | .free | .sounding => false) = true ↔ ∃ t, s.val.voices[v].state = .releasing t ∧ s.reached t := fun v => by
    cases s.val.voices[v].state <;> simp [hasCome_iff]
  unfold State.releaseDue
  rw [List.mem_map]
  constructor
  · rintro ⟨v, hv, rfl⟩
    obtain ⟨t, ht⟩ := (hdue v).mp (List.mem_filter.mp hv).2
    exact ⟨v, rfl, v, t, rfl, ht⟩
  · rintro ⟨_, rfl, v, t, rfl, ht⟩
    exact ⟨v, List.mem_filter.mpr ⟨List.mem_finRange v, (hdue v).mpr ⟨t, ht⟩⟩, rfl⟩

/-- A frame is complete only while one is being assembled (R170). -/
theorem frameComplete_iff :
    frameIsComplete s.heldBytes = true ↔
      ∃ held gapTime, s.lnk.receiver = .assembling held gapTime ∧ completeBytes held := by
  rw [frameIsComplete_iff]
  unfold State.heldBytes
  cases s.lnk.receiver <;> simp

theorem gapDue_iff :
    s.gapDue = true ↔
      ∃ held gapTime, s.lnk.receiver = .assembling held gapTime ∧ ¬ completeBytes held ∧ 21 ≤ (s.tick - gapTime).toInt := by
  unfold State.gapDue
  cases s.lnk.receiver with
  | hunting => simp
  | assembling held gapTime =>
    simp only [Bool.and_eq_true, Bool.not_eq_true', ← Bool.not_eq_true, frameIsComplete_iff, decide_eq_true_eq,
      Receiver.assembling.injEq]
    constructor
    · rintro ⟨hc, hg⟩; exact ⟨held, gapTime, ⟨rfl, rfl⟩, hc, hg⟩
    · rintro ⟨_, _, ⟨rfl, rfl⟩, hc, hg⟩; exact ⟨hc, hg⟩

theorem Entry.isDue_iff {e : Entry} : e.isDue s.tick = true ↔ (∃ c, e.report = .allOff c) ∨ s.reached e.due := by
  rw [Entry.isDue, Bool.or_eq_true, Entry.isAllOff_iff, hasCome_iff]

theorem transmitDue_iff :
    s.transmitDue = true ↔
      s.lnk.transmitter = .idle ∧
        ((∃ f, s.lnk.slot = some f) ∨
          ∃ e es, s.evq.entries = e :: es ∧ ((∃ c, e.report = .allOff c) ∨ s.reached e.due)) := by
  simp only [State.transmitDue, Bool.and_eq_true, Bool.or_eq_true, beq_iff_eq, Option.isSome_iff_exists]
  cases s.evq.entries <;> simp [Entry.isDue_iff]

/-! ### Requests -/

/-- The KINDs whose request a command takes (R182). -/
def takesKind : Instr → Nat → Prop
  | .setScan, k => k = 0x01
  | .setBellows, k => k = 0x02
  | .calibrate, k => k = 0x03
  | .setExpression, k => k = 0x04
  | .setClock, k => k = 0x05
  | .writeKeys, k => k = 0x06
  | .readKeys, k => k = 0x07
  | .writeSection, k => k = 0x08
  | .readSection, k => k = 0x09
  | .sectionReady, k => k = 0x0A
  | .cutRequest, k => k = 0x0B
  | .resume, k => k = 0x0C
  | .selectPreset, k => k = 0x0D
  | .cancelPending, k => k = 0x0E
  | .writeLayer, k => k = 0x0F
  | .readLayer, k => k = 0x10
  | .setPresetFlags, k => k = 0x11
  | .status, k => k = 0x12
  | .clearFlags, k => k = 0x13
  | .reset, k => k = 0x14
  | .unknownRequest, k => k = 0 ∨ 0x14 < k
  | _, _ => False

/-- The request command of a KIND is the one that takes it. -/
theorem eq_requestCommand_iff (k : Byte) : i = requestCommand k ↔ takesKind i k.toNat := by
  constructor
  · rintro rfl
    by_cases hu : requestCommand k = .unknownRequest
    · rw [hu]; exact (requestCommand_unknown k).mp hu
    · revert hu
      unfold requestCommand
      split
      case h_21 => exact fun h => absurd rfl h
      all_goals exact fun _ => ‹k.toNat = _›
  · intro h
    cases i
    case unknownRequest => exact ((requestCommand_unknown k).mpr h).symm
    all_goals simp only [takesKind] at h
    all_goals unfold requestCommand; rw [h]; rfl

/-- The request of the oldest frame is due, for an IDLE handler (R173, R182). -/
theorem mem_requestDue_iff : i ∈ s.requestDue ↔ s.waitsFor (takesKind i) := by
  rw [mem_requestDue]
  constructor
  · rintro ⟨f, rest, hh, hf, he⟩; exact ⟨hh, f, rest, hf, (eq_requestCommand_iff _).mp he⟩
  · rintro ⟨hh, f, rest, hf, he⟩; exact ⟨f, rest, hh, hf, (eq_requestCommand_iff _).mpr he⟩

/-- The other events are those that the rules say have come due, when no boundary holds a scan start back (R11). -/
theorem mem_openEvents (h : s.ksc.boundaryDue = false) : i ∈ s.openEvents ↔ s.comesDue i := by
  simp only [State.openEvents, List.mem_append, mem_dueWhen, mem_settleDue, mem_releaseDue, mem_requestDue_iff,
    frameComplete_iff, scanDue_iff, deadlineDue_iff, beatAbsentDue_iff, gapDue_iff, transmitDue_iff, h, true_and]
  cases i <;> simp only [State.comesDue, takesKind, State.waitsFor, reduceCtorEq, Instr.settleExpiry.injEq,
    Instr.releaseExpiry.injEq, and_false, false_and, exists_const, exists_false, false_or, or_false, and_true, exists_eq_left']

/-- While RESET is low nothing is due. -/
theorem dueEvents_of_reset {c : ResetCause} (h : s.inReset = some c) : s.dueEvents = [] := by
  simp [State.dueEvents, h]

/-- Of a running part the closing events are due, and when there is none the others. -/
theorem mem_dueEvents (h : s.inReset = none) :
    i ∈ s.dueEvents ↔ s.closes i ∨ ((∀ j, ¬ s.closes j) ∧ s.comesDue i) := by
  have hnil : s.closingEvents = [] ↔ ∀ j, ¬ s.closes j := by
    rw [List.eq_nil_iff_forall_not_mem]
    exact forall_congr' fun j => not_congr mem_closingEvents
  rw [State.dueEvents, if_pos (by rw [State.running_eq, h]; rfl)]
  split
  next hc =>
    have hnone := hnil.mp hc
    have hboundary : s.ksc.boundaryDue = false := by
      rw [← Bool.not_eq_true, Scanner.boundaryDue_iff]
      exact hnone .scanBoundary
    rw [mem_openEvents hboundary]
    exact ⟨fun hi => .inr ⟨hnone, hi⟩, fun hi => hi.elim (fun hcl => absurd hcl (hnone i)) And.right⟩
  next hc =>
    rw [mem_closingEvents]
    exact ⟨.inl, fun hi => hi.elim id fun hi => absurd (hnil.mpr hi.1) hc⟩

/-- What a tick waits for (R1, R17, R56, R90). -/
theorem awaitsWorld_iff :
    s.awaitsWorld = true ↔
      s.tck.beatLine.sampledAt ≠ some s.tick ∨ s.tck.barLine.sampledAt ≠ some s.tick ∨
        s.scn.cutLine.sampledAt ≠ some s.tick ∨ s.reached s.blu.nextSample ∨
        (s.ksc.scanning = true ∧ ∃ t, s.ksc.lastStart = some t ∧ 2 ≤ (s.tick - t).toInt) := by
  have hscan : s.scanOver = true ↔
      s.ksc.scanning = true ∧ ∃ t, s.ksc.lastStart = some t ∧ 2 ≤ (s.tick - t).toInt := by
    simp [State.scanOver, Option.any_eq_true, wrapDiff]
  rw [State.awaitsWorld, Bool.or_eq_true, Bool.or_eq_true, Bool.or_eq_true, Bool.or_eq_true, LineFilter.wants_iff,
    LineFilter.wants_iff, LineFilter.wants_iff, hscan, State.sampleDue, hasCome_iff]
  simp only [or_assoc]

/-! ### An empty queue -/

theorem step_of_empty (h : s.pending = []) : step s = idle s := by unfold step; rw [h]

/-- With nothing due the part lets a tick pass. -/
theorem idle_of_nothing_due (h : s.dueEvents = []) : idle s = .next (passTick s) := by
  unfold idle; rw [pickDue_eq_none.mpr h]

/-- With something due the part takes one of the events that are. -/
theorem idle_of_due (h : s.dueEvents ≠ []) : ∃ i ∈ s.dueEvents, idle s = exec i { s with picks := s.picks + 1 } := by
  cases hp : s.pickDue with
  | none => exact absurd (pickDue_eq_none.mp hp) h
  | some i => exact ⟨i, pickDue_mem hp, by unfold idle; rw [hp]⟩

theorem passTick_of_awaiting (h : s.inReset ≠ none ∨ s.awaitsWorld = true) : passTick s = s := by
  rcases passTick_cases s with ⟨hr, hw, _⟩ | ⟨_, he⟩
  · exact h.elim (absurd hr) fun e => Bool.noConfusion (e.symm.trans hw)
  · exact he

theorem passTick_of_ready (hr : s.inReset = none) (hw : s.awaitsWorld = false) :
    passTick s = { s with tick := s.tick + 1, evq := s.evq.atTick (s.tick + 1) } := by
  rcases passTick_cases s with ⟨_, _, he⟩ | ⟨h, _⟩
  · exact he
  · exact h.elim (absurd hr) fun e => Bool.noConfusion (e.symm.trans hw)

end

/-- Settles O2: one pick of the due events or one tick, and each event's due condition read off the event's own lemma. -/
theorem emptyQueueTakesADueEventOrATick : Obligations.EmptyQueueTakesADueEventOrATick := by
  refine ⟨fun s hp => ?_, fun s => ⟨fun c => dueEvents_of_reset, fun hr i => mem_dueEvents hr, awaitsWorld_iff⟩⟩
  rw [step_of_empty hp]
  refine ⟨idle_of_due, fun hd hr => ?_, fun c hc => ?_⟩
  · rw [idle_of_nothing_due hd]
    exact ⟨fun hw => by rw [passTick_of_ready hr hw]; rfl, fun hw => by rw [passTick_of_awaiting (.inr hw)]⟩
  · rw [idle_of_nothing_due (dueEvents_of_reset hc), passTick_of_awaiting (.inl (by simp [hc]))]

end Sys2Proof.Machine
end

section
/-! ## Samples of the pressure: what each step of one can do (R17 to R27, R31) -/

namespace Sys2Proof.Machine

/-! ### Numbers brought into a range -/

theorem saturate_eq {lo hi : Int} (h : lo ≤ hi) (i : Int) : saturate lo hi i = max lo (min hi i) := by
  unfold saturate; split
  · omega
  · split <;> omega

theorem clampNat_eq {lo hi : Nat} (h : lo ≤ hi) (n : Nat) : clampNat lo hi n = max lo (min hi n) := by
  unfold clampNat; split
  · omega
  · split <;> omega

theorem clampNat_mem {lo hi : Nat} (h : lo ≤ hi) (n : Nat) : lo ≤ clampNat lo hi n ∧ clampNat lo hi n ≤ hi := by
  rw [clampNat_eq h]; omega

theorem rawSample_eq (p : Int) : rawSample p = rawOf p := saturate_eq (by decide) p

theorem centred_eq (raw offset : Int) : centred raw offset = centredOf raw offset := saturate_eq (by decide) _

theorem fullScale_iff {raw : Int} : fullScale raw = true ↔ raw = -2048 ∨ raw = 2047 := by
  simp [fullScale, rawLowest, rawHighest]

theorem fullScale_eq_false {raw : Int} : fullScale raw = false ↔ ¬ (raw = -2048 ∨ raw = 2047) := by
  rw [← fullScale_iff, Bool.not_eq_true]

/-! ### What a sample can change -/

/-- At most the blocks that a sample works on differ: Bellows Unit, Expression Unit and, at a reversal, Registration Unit and
Voice Allocator, with their reports and flags (R18). -/
def SampleOnly (s t : State) : Prop :=
  t = { s with blu := t.blu, exu := t.exu, reg := t.reg, val := t.val, evq := t.evq, stu := t.stu }

/-- Bellows Unit, Tempo Clock and Link Controller stand. -/
structure RangesStand (s t : State) : Prop where
  blu : t.blu = s.blu
  tck : t.tck = s.tck
  lnk : t.lnk = s.lnk

section
variable {s t u : State}

theorem SampleOnly.trans (h : SampleOnly s t) (k : SampleOnly t u) : SampleOnly s u := by
  rw [SampleOnly] at *; rw [k, h]

theorem SampleOnly.withBlu (s : State) (b : Bellows) : SampleOnly s (s.withBlu b) := rfl

theorem QueueOnly.sample (h : QueueOnly s t) : SampleOnly s t := by rw [QueueOnly] at h; rw [SampleOnly, h]; rfl

theorem NoticesOnly.sample (h : NoticesOnly s t) : SampleOnly s t := by rw [NoticesOnly] at h; rw [SampleOnly, h]; rfl

theorem LevelsOnly.sample (h : LevelsOnly s t) : SampleOnly s t := by rw [LevelsOnly] at h; rw [SampleOnly, h]; rfl

theorem PlayOnly.sample (h : PlayOnly s t) : SampleOnly s t := by rw [PlayOnly] at h; rw [SampleOnly, h]; rfl

theorem SampleOnly.tck (h : SampleOnly s t) : t.tck = s.tck := by rw [SampleOnly] at h; rw [h]

theorem SampleOnly.lnk (h : SampleOnly s t) : t.lnk = s.lnk := by rw [SampleOnly] at h; rw [h]

theorem RangesStand.refl (s : State) : RangesStand s s := ⟨rfl, rfl, rfl⟩

theorem RangesStand.trans (h : RangesStand s t) (k : RangesStand t u) : RangesStand s u :=
  ⟨k.blu.trans h.blu, k.tck.trans h.tck, k.lnk.trans h.lnk⟩

theorem LevelsOnly.rangesStand (h : LevelsOnly s t) : RangesStand s t := by
  rw [LevelsOnly] at h; rw [h]; exact ⟨rfl, rfl, rfl⟩

theorem PlayOnly.rangesStand (h : PlayOnly s t) : RangesStand s t := by
  rw [PlayOnly] at h; rw [h]; exact ⟨rfl, rfl, rfl⟩

theorem NotesOnly.rangesStand (h : NotesOnly s t) : RangesStand s t := h.play.rangesStand

theorem NoticesOnly.rangesStand (h : NoticesOnly s t) : RangesStand s t := h.notes.rangesStand

theorem QueueOnly.rangesStand (h : QueueOnly s t) : RangesStand s t := h.notices.rangesStand

end

/-! ### The sensor test (R25, R27) -/

section
variable {s : State} {raw : Int}

/-- In SENSOR_OK a sample inside ends the row of full-scale samples. -/
theorem sensorTest_of_inside (hs : s.blu.sensor = .ok) (hf : fullScale raw = false) :
    sensorTest raw s = s.withBlu { s.blu with rail := 0 } := by
  unfold sensorTest; rw [hs]; simp [hf]

/-- In SENSOR_OK a full-scale sample before the 32nd in a row counts. -/
theorem sensorTest_of_full (hs : s.blu.sensor = .ok) (hf : fullScale raw = true) (hr : s.blu.rail + 1 < 32) :
    sensorTest raw s = s.withBlu { s.blu with rail := s.blu.rail + 1 } := by
  unfold sensorTest; rw [hs]; simp [hf, railLimit]; omega

/-- The 32nd full-scale sample in a row enters the fault. -/
theorem sensorTest_of_rail (hs : s.blu.sensor = .ok) (hf : fullScale raw = true) (hr : s.blu.rail = 31) :
    sensorTest raw s = enterFault s := by
  unfold sensorTest; rw [hs]; simp [hf, hr, railLimit]

/-- In SENSOR_FAULT a full-scale sample ends the row of samples inside. -/
theorem sensorTest_of_fault_full (hs : s.blu.sensor = .fault) (hf : fullScale raw = true) :
    sensorTest raw s = s.withBlu { s.blu with recovery := 0 } := by
  unfold sensorTest; rw [hs]; simp [hf]

/-- In SENSOR_FAULT a sample inside before the 16th in a row counts. -/
theorem sensorTest_of_fault_inside (hs : s.blu.sensor = .fault) (hf : fullScale raw = false) (hr : s.blu.recovery < 15) :
    sensorTest raw s = s.withBlu { s.blu with recovery := s.blu.recovery + 1 } := by
  unfold sensorTest; rw [hs]; simp [hf, recoveryLimit]; omega

/-- The 16th sample inside in a row ends the fault. -/
theorem sensorTest_of_recovery (hs : s.blu.sensor = .fault) (hf : fullScale raw = false) (hr : s.blu.recovery = 15) :
    sensorTest raw s = s.withBlu (endFault s.blu) := by
  unfold sensorTest; rw [hs]; simp [hf, hr, recoveryLimit]

/-- The unit after entry into a fault. -/
theorem enterFault_blu (s : State) :
    (enterFault s).blu =
      { s.blu with
        sensor := .fault
        rail := 0
        recovery := 0
        collection := s.blu.collection.map fun c => { c with faultDuring := true } } :=
  (offerGeneral_queueOnly (.fault .sensor) (s.withBlu _)).rangesStand.blu

theorem enterFault_sampleOnly (s : State) : SampleOnly s (enterFault s) :=
  .trans (.withBlu s _) (offerGeneral_queueOnly _ _).sample

/-- Everything the sensor test can do: enter a fault, move the row of full-scale samples below its limit, move the row of samples
inside below its limit, or end a fault. -/
theorem sensorTest_cases (raw : Int) (s : State) :
    sensorTest raw s = enterFault s ∨
      (∃ n < 32, s.blu.sensor = .ok ∧ sensorTest raw s = s.withBlu { s.blu with rail := n }) ∨
      (∃ n < 16, s.blu.sensor = .fault ∧ sensorTest raw s = s.withBlu { s.blu with recovery := n }) ∨
      sensorTest raw s = s.withBlu (endFault s.blu) := by
  unfold sensorTest
  cases hs : s.blu.sensor with
  | ok =>
    by_cases hf : fullScale raw = true
    · by_cases hr : railLimit ≤ s.blu.rail + 1
      · exact .inl (by simp [hf, hr])
      · exact .inr (.inl ⟨s.blu.rail + 1, not_le.mp hr, rfl, by simp [hf, hr, hs]⟩)
    · exact .inr (.inl ⟨0, by decide, rfl, by simp [hf, hs]⟩)
  | fault =>
    by_cases hf : fullScale raw = true
    · exact .inr (.inr (.inl ⟨0, by decide, rfl, by simp [hf, hs]⟩))
    · by_cases hr : recoveryLimit ≤ s.blu.recovery + 1
      · exact .inr (.inr (.inr (by simp [hf, hr])))
      · exact .inr (.inr (.inl ⟨s.blu.recovery + 1, not_le.mp hr, rfl, by simp [hf, hr, hs]⟩))

theorem sensorTest_sampleOnly (raw : Int) (s : State) : SampleOnly s (sensorTest raw s) := by
  rcases sensorTest_cases raw s with h | ⟨_, _, _, h⟩ | ⟨_, _, _, h⟩ | h <;> rw [h]
  case inl => exact enterFault_sampleOnly s
  all_goals exact .withBlu s _

/-! ### The direction test (R20, R21) -/

/-- The direction test moves the direction and the run counters alone. -/
theorem Bellows.test_frame (c : Int) (b : Bellows) :
    b.test c =
      { b with direction := (b.test c).direction, pushRun := (b.test c).pushRun, pullRun := (b.test c).pullRun } := by
  unfold Bellows.test; split <;> rfl

/-- The settings and counts that the direction test leaves. -/
theorem Bellows.test_settings (c : Int) (b : Bellows) :
    (b.test c).rail = b.rail ∧ (b.test c).nextSample = b.nextSample ∧ (b.test c).sensor = b.sensor ∧
      (b.test c).offset = b.offset ∧ (b.test c).hysteresis = b.hysteresis ∧ (b.test c).deadTime = b.deadTime ∧
      (b.test c).recovery = b.recovery := by
  rw [Bellows.test_frame]; exact ⟨rfl, rfl, rfl, rfl, rfl, rfl, rfl⟩

variable {b : Bellows} {c : Int}

/-- A full push counter commits PUSH, unless PUSH is committed already. -/
theorem Bellows.test_of_push (h : (b.count c).pushRun = b.deadTime ∧ b.direction ≠ some .push) :
    b.test c = (b.count c).commitTo .push := by
  have : (b.count c).commits = some .push := if_pos h
  unfold Bellows.test; rw [this]

/-- A full pull counter commits PULL, unless PULL is committed already or PUSH is committed now. -/
theorem Bellows.test_of_pull (hp : ¬ ((b.count c).pushRun = b.deadTime ∧ b.direction ≠ some .push))
    (h : (b.count c).pullRun = b.deadTime ∧ b.direction ≠ some .pull) : b.test c = (b.count c).commitTo .pull := by
  have : (b.count c).commits = some .pull := (if_neg hp).trans (if_pos h)
  unfold Bellows.test; rw [this]

/-- Otherwise the counters move and nothing is committed. -/
theorem Bellows.test_of_neither (hp : ¬ ((b.count c).pushRun = b.deadTime ∧ b.direction ≠ some .push))
    (h : ¬ ((b.count c).pullRun = b.deadTime ∧ b.direction ≠ some .pull)) : b.test c = b.count c := by
  have : (b.count c).commits = none := (if_neg hp).trans (if_neg h)
  unfold Bellows.test; rw [this]

/-! ### An ordinary sample (R18) -/

theorem clipCentring_noticesOnly (raw : Int) (s : State) : NoticesOnly s (clipCentring raw s) := by
  unfold clipCentring; split
  · exact .refl s
  · exact raiseFlag_noticesOnly _ s

/-- The unit after an ordinary sample's direction test. -/
def Bellows.tested (raw : Int) (b : Bellows) : Bellows := b.test (centred raw b.offset)

/-- An ordinary sample up to the work of the Expression Unit, before a reversal is handed on. -/
def heardSample (raw : Int) (s : State) : State :=
  expressionSample (some (centred raw s.blu.offset)) ((clipCentring raw s).withBlu (s.blu.tested raw))

theorem clipCentring_tested (raw : Int) (s : State) :
    (clipCentring raw s).withBlu ((clipCentring raw s).blu.test (centred raw s.blu.offset)) =
      (clipCentring raw s).withBlu (s.blu.tested raw) := by
  rw [(clipCentring_noticesOnly raw s).rangesStand.blu]; rfl

/-- A sample that makes no reversal ends there. -/
theorem ordinarySample_of_none (h : reversalOf s.blu.direction (s.blu.tested raw).direction = none) :
    ordinarySample raw s = heardSample raw s := by
  unfold ordinarySample; dsimp only
  rw [clipCentring_tested, State.withBlu_blu, h]; rfl

/-- A reversal is handed on last. -/
theorem ordinarySample_of_reversal {d : Side} (h : reversalOf s.blu.direction (s.blu.tested raw).direction = some d) :
    ordinarySample raw s = handReversal d (heardSample raw s) := by
  unfold ordinarySample; dsimp only
  rw [clipCentring_tested, State.withBlu_blu, h]; rfl

theorem ordinarySample_cases (raw : Int) (s : State) :
    ordinarySample raw s = heardSample raw s ∨ ∃ d, ordinarySample raw s = handReversal d (heardSample raw s) := by
  cases h : reversalOf s.blu.direction (s.blu.tested raw).direction with
  | none => exact .inl (ordinarySample_of_none h)
  | some d => exact .inr ⟨d, ordinarySample_of_reversal h⟩

theorem heardSample_sampleOnly (raw : Int) (s : State) : SampleOnly s (heardSample raw s) :=
  .trans (.trans (clipCentring_noticesOnly raw s).sample (.withBlu _ _)) (expressionSample_levelsOnly _ _).sample

theorem heardSample_blu (raw : Int) (s : State) : (heardSample raw s).blu = s.blu.tested raw :=
  (expressionSample_levelsOnly _ _).rangesStand.blu

theorem ordinarySample_sampleOnly (raw : Int) (s : State) : SampleOnly s (ordinarySample raw s) := by
  rcases ordinarySample_cases raw s with h | ⟨d, h⟩ <;> rw [h]
  · exact heardSample_sampleOnly raw s
  · exact .trans (heardSample_sampleOnly raw s) (handReversal_playOnly d _).sample

/-- Of the unit an ordinary sample moves what the direction test moves. -/
theorem ordinarySample_blu (raw : Int) (s : State) : (ordinarySample raw s).blu = s.blu.tested raw := by
  rcases ordinarySample_cases raw s with h | ⟨d, h⟩ <;> rw [h]
  · exact heardSample_blu raw s
  · exact (handReversal_playOnly d _).rangesStand.blu.trans (heardSample_blu raw s)

/-! ### One sample (R18) -/

/-- A sample up to its sensor test. -/
def judgedSample (raw : Int) (s : State) : State := sensorTest raw (collect raw s)

theorem judgedSample_sampleOnly (raw : Int) (s : State) : SampleOnly s (judgedSample raw s) :=
  .trans (.withBlu s _) (sensorTest_sampleOnly raw _)

/-- A sample judged to be in fault is held (R26, R50). -/
theorem processSample_of_fault (h : (judgedSample raw s).blu.sensor = .fault) :
    processSample raw s = expressionSample none (judgedSample raw s) := by
  unfold processSample; dsimp only; rw [← judgedSample, h]

/-- Any other sample is ordinary. -/
theorem processSample_of_ok (h : (judgedSample raw s).blu.sensor = .ok) :
    processSample raw s = ordinarySample raw (judgedSample raw s) := by
  unfold processSample; dsimp only; rw [← judgedSample, h]

theorem processSample_sampleOnly (raw : Int) (s : State) : SampleOnly s (processSample raw s) := by
  refine (judgedSample_sampleOnly raw s).trans ?_
  cases h : (judgedSample raw s).blu.sensor with
  | ok => rw [processSample_of_ok h]; exact ordinarySample_sampleOnly raw _
  | fault => rw [processSample_of_fault h]; exact (expressionSample_levelsOnly _ _).sample

/-- Of the unit a held sample moves what the sensor test moves, and an ordinary one the direction test's part too. -/
theorem processSample_blu (raw : Int) (s : State) :
    (processSample raw s).blu =
      if (judgedSample raw s).blu.sensor = .ok then (judgedSample raw s).blu.tested raw else (judgedSample raw s).blu := by
  cases h : (judgedSample raw s).blu.sensor with
  | ok => rw [processSample_of_ok h]; exact ordinarySample_blu raw _
  | fault => rw [processSample_of_fault h]; exact (expressionSample_levelsOnly _ _).rangesStand.blu

theorem Bellows.tested_sensor (raw : Int) (b : Bellows) : (b.tested raw).sensor = b.sensor := by
  rw [Bellows.tested, Bellows.test_frame]

theorem Bellows.tested_collection (raw : Int) (b : Bellows) : (b.tested raw).collection = b.collection := by
  rw [Bellows.tested, Bellows.test_frame]

/-- The sensor state after a sample is the one its sensor test leaves. -/
theorem processSample_sensor (raw : Int) (s : State) :
    (processSample raw s).blu.sensor = (judgedSample raw s).blu.sensor := by
  rw [processSample_blu]; split
  · exact Bellows.tested_sensor ..
  · rfl

theorem processSample_collection (raw : Int) (s : State) :
    (processSample raw s).blu.collection = (judgedSample raw s).blu.collection := by
  rw [processSample_blu]; split
  · exact Bellows.tested_collection ..
  · rfl

end

/-! ### The command (R17) -/

section
variable {s : State} {p : Int}

/-- The part when a conversion has completed: the next one completes one period later (R17). -/
def State.conversion (s : State) : State := s.withBlu { s.blu with nextSample := s.blu.nextSample + 5 }

theorem sampleDue_iff : s.sampleDue = true ↔ s.reached s.blu.nextSample := hasCome_iff

/-- A sample that arrives is worked. -/
theorem exec_sample (h : s.samples) : exec (.sample p) s = .next (processSample (rawOf p) s.conversion) := by
  obtain ⟨hr, hdue⟩ := h
  have harm : exec (.sample p) s = execSample p s := rfl
  rw [harm, execSample, whileRunning_of_running hr, if_pos (sampleDue_iff.mpr hdue), rawSample_eq]; rfl

/-- A sample before its tick does nothing (log entry 4). -/
theorem exec_sample_of_early (hr : s.inReset = none) (h : ¬ s.reached s.blu.nextSample) :
    exec (.sample p) s = .next s := by
  have harm : exec (.sample p) s = execSample p s := rfl
  rw [harm, execSample, whileRunning_of_running hr, if_neg fun hd => h (sampleDue_iff.mp hd)]

/-- The unit that the sensor test of a sample finds: the next conversion is under way, and the sample has joined a collection that
is not full (R17, R31). -/
def Bellows.gathered (raw : Int) (b : Bellows) : Bellows :=
  { b with
    nextSample := b.nextSample + 5
    collection := b.collection.map fun c => if c.count < collectionSize then c.add raw else c }

theorem collect_conversion (raw : Int) (s : State) : collect raw s.conversion = s.withBlu (s.blu.gathered raw) := rfl

@[simp] theorem State.withBlu_withBlu (a b : Bellows) (s : State) : (s.withBlu a).withBlu b = s.withBlu b := rfl

/-- The unit at an ordinary sample, before the direction test. -/
def Bellows.railed (raw : Int) (b : Bellows) : Bellows :=
  { b.gathered raw with rail := if raw = -2048 ∨ raw = 2047 then b.rail + 1 else 0 }

theorem judgedSample_of_ordinary (h : s.samplesOrdinary p) :
    judgedSample (rawOf p) s.conversion = s.withBlu (s.blu.railed (rawOf p)) := by
  obtain ⟨_, hok, hrail⟩ := h
  rw [judgedSample, collect_conversion, Bellows.railed]
  by_cases hf : rawOf p = -2048 ∨ rawOf p = 2047
  · rw [sensorTest_of_full (s := s.withBlu (s.blu.gathered (rawOf p))) hok (fullScale_iff.mpr hf) (hrail hf), if_pos hf,
      State.withBlu_withBlu]
    rfl
  · rw [sensorTest_of_inside (s := s.withBlu (s.blu.gathered (rawOf p))) hok (fullScale_eq_false.mpr hf), if_neg hf,
      State.withBlu_withBlu]
    rfl

/-- An ordinary sample, as the rules number its steps. -/
theorem exec_sample_of_ordinary (h : s.samplesOrdinary p) :
    exec (.sample p) s = .next (ordinarySample (rawOf p) (s.withBlu (s.blu.railed (rawOf p)))) := by
  have hj := judgedSample_of_ordinary h
  rw [exec_sample h.1, processSample_of_ok (by rw [hj]; exact h.2.1), hj]

/-- Settles O15: the three outcomes of the direction test on the unit that the sensor test leaves. -/
theorem ordinarySampleMovesTheDirection : Obligations.OrdinarySampleMovesTheDirection := by
  intro s p
  refine ⟨exec_sample_of_early, fun ho => ?_⟩
  intro c push pull toPush toPull
  have hexec := exec_sample_of_ordinary ho
  have hblu := ordinarySample_blu (rawOf p) (s.withBlu (s.blu.railed (rawOf p)))
  have hframe := (SampleOnly.withBlu s _).trans (ordinarySample_sampleOnly (rawOf p) (s.withBlu (s.blu.railed (rawOf p))))
  generalize ordinarySample (rawOf p) (s.withBlu (s.blu.railed (rawOf p))) = t at hexec hblu hframe
  have htest : t.blu = (s.blu.railed (rawOf p)).test c := by
    rw [hblu, State.withBlu_blu, Bellows.tested, centred_eq]; rfl
  obtain ⟨hrail, hnext, hsensor, hoffset, hhyst, hdead, hrecovery⟩ := Bellows.test_settings c (s.blu.railed (rawOf p))
  rw [← htest] at hrail hnext hsensor hoffset hhyst hdead hrecovery
  refine ⟨t, hexec, fun h => ?_, fun h => ?_, fun h h' => ?_, hrail, hnext, hsensor.trans ho.2.1, hoffset, hhyst, hdead,
    hrecovery, hframe⟩
  · rw [htest, Bellows.test_of_push (b := s.blu.railed (rawOf p)) h]; exact ⟨rfl, rfl, rfl⟩
  · rw [htest, Bellows.test_of_pull (b := s.blu.railed (rawOf p)) h.1 h.2]; exact ⟨rfl, rfl, rfl⟩
  · rw [htest, Bellows.test_of_neither (b := s.blu.railed (rawOf p)) h fun hp => h' ⟨h, hp⟩]; exact ⟨rfl, rfl, rfl⟩

end

end Sys2Proof.Machine
end

section
/-! ## SetBellows and Calibrate (R29 to R33) -/

namespace Sys2Proof.Machine

/-! ### SetBellows -/

theorem statusCode_doneOrClamped (b : Bool) : statusCode (doneOrClamped b) = if b then 0x01 else 0x00 := by
  cases b <;> rfl

/-- What SetBellows makes of a payload of three bytes (R29). -/
theorem setBellows_eq (h1 h0 d : Byte) (s : State) :
    let carried := h1.toNat * 256 + h0.toNat
    let h := max 4 (min 512 carried)
    let dt := max 1 (min 32 d.toNat)
    let same := h = s.blu.hysteresis ∧ dt = s.blu.deadTime
    setBellows [h1, h0, d] s =
      { state :=
          s.withBlu
            { s.blu with
              hysteresis := h
              deadTime := dt
              pushRun := if same then s.blu.pushRun else 0
              pullRun := if same then s.blu.pullRun else 0 }
        status := doneOrClamped (h != carried || dt != d.toNat)
        data := [BitVec.ofNat 8 (h / 256), BitVec.ofNat 8 h, BitVec.ofNat 8 dt] } := by
  intro carried h dt same
  have hh : clampNat 4 512 (wordAt [h1, h0, d] 0) = h := clampNat_eq (by decide) _
  have hd : clampNat 1 32 (byteAt [h1, h0, d] 2) = dt := clampNat_eq (by decide) _
  have hsame : (h == s.blu.hysteresis && dt == s.blu.deadTime) = true ↔ same := by
    rw [Bool.and_eq_true, beq_iff_eq, beq_iff_eq]
  unfold setBellows
  rw [hh, hd]
  simp only [hsame]
  rfl

/-- Settles O18: the request goes to `setBellows`, whose clamps are `max` and `min`. -/
theorem setBellowsPutsClampedValuesInForce : Obligations.SetBellowsPutsClampedValuesInForce := by
  intro s tag h1 h0 d rest ho carried h dt same
  have harm : exec .setBellows s = serve 0x02 3 setBellows s := rfl
  have hstatus : BitVec.ofNat 8 (statusCode (doneOrClamped (h != carried || dt != d.toNat))) =
      if h = carried ∧ dt = d.toNat then 0x00 else 0x01 := by
    rw [statusCode_doneOrClamped]
    by_cases hh : h = carried <;> by_cases hd : dt = d.toNat <;> simp [hh, hd]
  rw [harm, serve_of_offers (len := 3) ho rfl, setBellows_eq, ← hstatus]
  rfl

/-! ### Calibrate -/

/-- The collection after a sample, as R31 reads. -/
theorem Collection.add_extremes (raw : Int) (c : Collection) :
    (∀ m, c.minimum = some m → (c.add raw).minimum = some (min raw m)) ∧
      (∀ m, c.maximum = some m → (c.add raw).maximum = some (max raw m)) ∧
      (c.minimum = none → (c.add raw).minimum = some raw) ∧ (c.maximum = none → (c.add raw).maximum = some raw) := by
  refine ⟨fun m h => ?_, fun m h => ?_, fun h => ?_, fun h => ?_⟩ <;> simp [Collection.add, h]

/-- The sensor test leaves a collection but for the mark of a fault that begins (R31). -/
theorem sensorTest_collection (raw : Int) (s : State) :
    (sensorTest raw s).blu.collection = s.blu.collection ∨
      (sensorTest raw s).blu.collection = s.blu.collection.map fun c => { c with faultDuring := true } := by
  rcases sensorTest_cases raw s with h | ⟨_, _, _, h⟩ | ⟨_, _, _, h⟩ | h <;> rw [h]
  case inl => rw [enterFault_blu]; exact .inr rfl
  all_goals exact .inl rfl

/-- A sample joins the collection that is not full (R31). -/
theorem judgedSample_collection {s : State} {c : Collection} (raw : Int) (hc : s.blu.collection = some c)
    (hn : c.count < 64) :
    (judgedSample raw s).blu.collection = some (c.add raw) ∨
      (judgedSample raw s).blu.collection = some { c.add raw with faultDuring := true } := by
  have hcollect : (collect raw s).blu.collection = some (c.add raw) := by
    have : c.count < collectionSize := hn
    simp [collect, hc, this]
  have := sensorTest_collection raw (collect raw s)
  rwa [hcollect] at this

/-- Settles O19: the request's arm starts the collection, and the sample's first step adds to it. -/
theorem calibrateStartsACollection : Obligations.CalibrateStartsACollection := by
  refine ⟨fun s tag rest ho => ?_, fun s p c hs hc hn => ?_⟩
  · have harm : exec .calibrate s = execCalibrate s := rfl
    rw [harm, execCalibrate, takeRequest_of_offers ho rfl]
    rfl
  · obtain ⟨hmin, hmax, hmin', hmax'⟩ := Collection.add_extremes (rawOf p) c
    have hcoll := processSample_collection (rawOf p) s.conversion
    rcases judgedSample_collection (s := s.conversion) (rawOf p) hc hn with h | h <;> rw [h] at hcoll
    · exact ⟨_, _, exec_sample hs, hcoll, rfl, rfl, hmin, hmax, hmin', hmax', rfl⟩
    · exact ⟨_, _, exec_sample hs, hcoll, rfl, rfl, hmin, hmax, hmin', hmax', rfl⟩

/-! ### The end of a calibration -/

/-- Division by 64 rounds the mean down, as R32 says. -/
theorem Collection.mean_eq (c : Collection) : c.mean = Int.fdiv c.sum 64 :=
  (Int.fdiv_eq_ediv_of_nonneg _ (by decide)).symm

theorem Collection.spread_eq {c : Collection} {lo hi : Int} (hlo : c.minimum = some lo) (hhi : c.maximum = some hi) :
    c.spread = (hi - lo).toNat := by
  simp [Collection.spread, hlo, hhi]

/-- The outcome's status code and offset, with mean and spread as R32 defines them. -/
theorem calibrationOutcome_eq {c : Collection} {lo hi : Int} (hlo : c.minimum = some lo) (hhi : c.maximum = some hi)
    (hle : lo ≤ hi) (h : Nat) (o : Int) :
    let mean := Int.fdiv c.sum 64
    let outcome : Byte × Int :=
      if c.faultAtStart = true ∨ c.faultDuring = true then (0x21, o)
      else if hi - lo > 2 * (h : Int) then (0x20, o)
      else if mean > 255 then (0x01, 255)
      else if mean < -255 then (0x01, -255)
      else (0x00, mean)
    (BitVec.ofNat 8 (statusCode (calibrationOutcome h o c).1), (calibrationOutcome h o c).2) = outcome := by
  intro mean outcome
  have hmean : c.mean = mean := c.mean_eq
  have hspread : 2 * h < c.spread ↔ hi - lo > 2 * (h : Int) := by
    rw [Collection.spread_eq hlo hhi]; omega
  simp only [calibrationOutcome, hmean, hspread, offsetLimit, Bool.or_eq_true, outcome]
  split
  · rfl
  · split
    · rfl
    · split
      · rfl
      · split <;> rfl

/-- Settles O20: the reply of `endCalibration`, with `calibrationOutcome` put in the rule's words. -/
theorem calibrationEndsWithItsOutcome : Obligations.CalibrationEndsWithItsOutcome := by
  intro s tag c lo hi hr hh hc hn hlo hhi hle mean outcome
  have harm : exec .calibrationEnd s = execCalibrationEnd s := rfl
  have hdue : s.calibrationDue = some (tag, c) := by
    simp [State.calibrationDue, hh, hc, hn, collectionSize]
  have houtcome : outcome = _ := (calibrationOutcome_eq hlo hhi hle s.blu.hysteresis s.blu.offset).symm
  rw [harm, execCalibrationEnd, whileRunning_of_running hr]
  simp only [hdue]
  rw [houtcome, endCalibration, c.mean_eq, Collection.spread_eq hlo hhi]
  rfl

end Sys2Proof.Machine
end

section
/-! ## SENSOR_FAULT (R25 to R27, R50, R51) -/

namespace Sys2Proof.Machine

/-! ### What Dynamic reports change (R45, R46) -/

/-- At most the sections' levels and the Event Queue differ. -/
def DynamicsOnly (s t : State) : Prop := t = (s.withExu { s.exu with sections := t.exu.sections }).withEvq t.evq

/-- The entries that are no Dynamic entries are the same. -/
def DynamicsAside (s t : State) : Prop :=
  ∀ e : Entry, (∀ n, e.isDynamicOf n = false) → (e ∈ t.evq.entries ↔ e ∈ s.evq.entries)

section
variable {s t u : State}

theorem DynamicsOnly.refl (s : State) : DynamicsOnly s s := rfl

theorem DynamicsOnly.trans (h : DynamicsOnly s t) (k : DynamicsOnly t u) : DynamicsOnly s u := by
  rw [DynamicsOnly] at *; rw [k, h]; rfl

theorem QueueOnly.dynamics (h : QueueOnly s t) : DynamicsOnly s t := by rw [QueueOnly] at h; rw [DynamicsOnly, h]; rfl

theorem DynamicsAside.refl (s : State) : DynamicsAside s s := fun _ _ => .rfl

theorem DynamicsAside.trans (h : DynamicsAside s t) (k : DynamicsAside t u) : DynamicsAside s u :=
  fun e he => (k e he).trans (h e he)

theorem DynamicsAside.of_entries (h : t.evq.entries = s.evq.entries) : DynamicsAside s t := fun _ _ => by rw [h]

end

theorem handDynamic_dynamicsOnly (n : Fin 8) (s : State) : DynamicsOnly s (handDynamic n s) := by
  unfold handDynamic; split
  · exact .trans (replaceDynamic_queueOnly n _ s).dynamics rfl
  · split
    · exact .trans (pushSection_queueOnly n _ s).dynamics rfl
    · exact .refl s

theorem testDynamics_dynamicsOnly (s : State) : DynamicsOnly s (testDynamics s) :=
  foldl_keeps DynamicsOnly.refl (fun _ _ _ => .trans)
    (fun s n => by
      unfold testDynamic; split
      · exact handDynamic_dynamicsOnly n s
      · exact .refl s) _ s

/-- Replacing a level touches no other entry. -/
theorem replaceDynamic_aside (n : Fin 8) (l : Nat) (s : State) : DynamicsAside s (replaceDynamic n l s) := by
  intro e he
  simp only [replaceDynamic, State.withEvq_evq, List.mem_map]
  constructor
  · rintro ⟨x, hx, rfl⟩
    by_cases hd : x.isDynamicOf n = true
    · rw [if_pos hd] at he
      exact absurd (he n) (by simp [Entry.isDynamicOf])
    · rwa [if_neg hd]
  · intro hmem
    exact ⟨e, hmem, by simp [he n]⟩

theorem pushSection_dynamic_aside (n : Fin 8) (l : Nat) (s : State) :
    DynamicsAside s (pushSection n (.dynamic n l) s) := by
  intro e he
  rw [mem_pushSection]
  refine or_iff_right ?_
  rintro rfl
  have := he n
  simp [Entry.isDynamicOf] at this

theorem handDynamic_aside (n : Fin 8) (s : State) : DynamicsAside s (handDynamic n s) := by
  unfold handDynamic; split
  · exact .trans (replaceDynamic_aside n _ s) (.of_entries rfl)
  · split
    · exact .trans (pushSection_dynamic_aside n _ s) (.of_entries rfl)
    · exact .refl s

theorem testDynamics_aside (s : State) : DynamicsAside s (testDynamics s) :=
  foldl_keeps DynamicsAside.refl (fun _ _ _ => .trans)
    (fun s n => by
      unfold testDynamic; split
      · exact handDynamic_aside n s
      · exact .refl s) _ s

/-! ### A held sample (R50, R51) -/

/-- A report that is admitted waits, due now (R150, R154). -/
theorem offerGeneral_reports {r : Report} {s : State} (h : s.soundingTotal + 1 ≤ s.freeEntries) :
    { report := r, due := s.tick, order := s.evq.made } ∈ (offerGeneral r s).evq.entries := by
  rcases offerGeneral_cases r s with ⟨_, he⟩ | ⟨hfull, _⟩
  · rw [he]; exact mem_pushGeneral.mpr (.inl rfl)
  · exact absurd h (not_le.mpr hfull)

/-- A held sample counts the accent window down; the forces and the history stand. -/
theorem heldSample_dynamicsOnly (s : State) : DynamicsOnly (accentCountdown s) (expressionSample none s) :=
  .trans (t := takeLevels (accentCountdown s)) rfl (testDynamics_dynamicsOnly _)

theorem heldSample_aside (s : State) : DynamicsAside s (expressionSample none s) :=
  .trans (t := takeLevels (accentCountdown s)) (.of_entries rfl) (testDynamics_aside _)

/-- At most the Bellows Unit, the Expression Unit and the Event Queue differ: what a held sample works on. -/
def HeldOnly (s t : State) : Prop := t = { s with blu := t.blu, exu := t.exu, evq := t.evq }

theorem HeldOnly.trans {s t u : State} (h : HeldOnly s t) (k : HeldOnly t u) : HeldOnly s u := by
  rw [HeldOnly] at *; rw [k, h]

theorem DynamicsOnly.heldOnly {s t : State} (h : DynamicsOnly s t) : HeldOnly s t := by
  rw [DynamicsOnly] at h; rw [HeldOnly, h]; rfl

/-- At most the unit and the queue differ, and of the unit what the sensor test reads: the direction, the run counters and the
offset stand (R26). -/
structure HeldByTest (s t : State) : Prop where
  direction : t.blu.direction = s.blu.direction
  pushRun : t.blu.pushRun = s.blu.pushRun
  pullRun : t.blu.pullRun = s.blu.pullRun
  offset : t.blu.offset = s.blu.offset
  frame : t = (s.withBlu t.blu).withEvq t.evq

section
variable {s : State} {raw : Int}

theorem enterFault_held (s : State) : HeldByTest s (enterFault s) := by
  have hframe : enterFault s = (s.withBlu (enterFault s).blu).withEvq (enterFault s).evq := by
    have h : QueueOnly _ (enterFault s) := offerGeneral_queueOnly (.fault .sensor) (s.withBlu _)
    rw [QueueOnly] at h; rw [enterFault_blu, ← h]
  exact ⟨by rw [enterFault_blu], by rw [enterFault_blu], by rw [enterFault_blu], by rw [enterFault_blu], hframe⟩

/-- A sample whose sensor test leaves the part in fault is held. -/
theorem sensorTest_held (h : (sensorTest raw s).blu.sensor = .fault) : HeldByTest s (sensorTest raw s) := by
  rcases sensorTest_cases raw s with he | ⟨n, _, hs, he⟩ | ⟨n, _, _, he⟩ | he <;> rw [he] at h ⊢
  · exact enterFault_held s
  · exact absurd (hs.symm.trans h) (by decide)
  · exact ⟨rfl, rfl, rfl, rfl, rfl⟩
  · cases h

theorem HeldByTest.exu {t : State} (h : HeldByTest s t) : t.exu = s.exu := by rw [h.frame]; rfl

theorem HeldByTest.heldOnly {t : State} (h : HeldByTest s t) : HeldOnly s t := by rw [HeldOnly, h.exu]; exact h.frame

/-- A collection is neither direction nor counter. -/
theorem HeldByTest.of_collect {t : State} (h : HeldByTest (collect raw s) t) : HeldByTest s t :=
  ⟨h.direction, h.pushRun, h.pullRun, h.offset, h.frame⟩

/-- Entry into a fault is reported when the queue has room (R25). -/
theorem enterFault_reports (h : s.soundingTotal + 1 ≤ 128 - s.fill) :
    { report := .fault .sensor, due := s.tick, order := s.evq.made } ∈ (enterFault s).evq.entries :=
  offerGeneral_reports (s := s.withBlu _) h

/-- Of the unit a sample in fault moves what the sensor test moves. -/
theorem processSample_blu_of_fault (h : (judgedSample raw s).blu.sensor = .fault) :
    (processSample raw s).blu = (judgedSample raw s).blu := by
  rw [processSample_blu, if_neg (by rw [h]; decide)]

/-- A sample that leaves the part in fault: the forces and the history stand, and the accent window is counted down (R50, R51). -/
theorem processSample_held (h : (processSample raw s).blu.sensor = .fault) :
    let t := processSample raw s
    t.blu.direction = s.blu.direction ∧ t.blu.pushRun = s.blu.pushRun ∧ t.blu.pullRun = s.blu.pullRun ∧
      t.blu.offset = s.blu.offset ∧ t.exu.force = s.exu.force ∧ t.exu.smoothed = s.exu.smoothed ∧
      t.exu.history = s.exu.history ∧ t.exu.accentCount = s.exu.accentCount - 1 ∧
      t = { s with blu := t.blu, exu := t.exu, evq := t.evq } := by
  rw [processSample_sensor] at h
  have hheld : HeldByTest s (judgedSample raw s) := (sensorTest_held (s := collect raw s) h).of_collect
  have hexu : (judgedSample raw s).exu = s.exu := hheld.exu
  have hblu := processSample_blu_of_fault h
  have hdyn := heldSample_dynamicsOnly (judgedSample raw s)
  rw [← processSample_of_fault h] at hdyn
  generalize processSample raw s = t at *
  dsimp only
  have hforces : t.exu = { s.exu with accentCount := s.exu.accentCount - 1, sections := t.exu.sections } := by
    rw [← hexu]; exact congrArg State.exu hdyn
  refine ⟨hblu ▸ hheld.direction, hblu ▸ hheld.pushRun, hblu ▸ hheld.pullRun, hblu ▸ hheld.offset, by rw [hforces],
    by rw [hforces], by rw [hforces], by rw [hforces], ?_⟩
  have hcount : HeldOnly (judgedSample raw s) (accentCountdown (judgedSample raw s)) := rfl
  exact (hheld.heldOnly.trans hcount).trans hdyn.heldOnly

/-- The 32nd full-scale sample in a row (R25, R31). -/
theorem judgedSample_of_rail (hs : s.blu.sensor = .ok) (hf : fullScale raw = true) (hr : s.blu.rail = 31) :
    judgedSample raw s.conversion = enterFault (s.withBlu (s.blu.gathered raw)) :=
  sensorTest_of_rail (s := s.withBlu (s.blu.gathered raw)) hs hf hr

theorem judgedSample_of_fault_full (hs : s.blu.sensor = .fault) (hf : fullScale raw = true) :
    judgedSample raw s.conversion = s.withBlu { s.blu.gathered raw with recovery := 0 } :=
  sensorTest_of_fault_full (s := s.withBlu (s.blu.gathered raw)) hs hf

theorem judgedSample_of_fault_inside (hs : s.blu.sensor = .fault) (hf : fullScale raw = false) (hr : s.blu.recovery < 15) :
    judgedSample raw s.conversion = s.withBlu { s.blu.gathered raw with recovery := s.blu.recovery + 1 } :=
  sensorTest_of_fault_inside (s := s.withBlu (s.blu.gathered raw)) hs hf hr

theorem judgedSample_of_recovery (hs : s.blu.sensor = .fault) (hf : fullScale raw = false) (hr : s.blu.recovery = 15) :
    judgedSample raw s.conversion = s.withBlu (endFault (s.blu.gathered raw)) :=
  sensorTest_of_recovery (s := s.withBlu (s.blu.gathered raw)) hs hf hr

end

/-- The part as the 16th sample inside finds it once the fault has ended (R27). -/
def State.faultEnded (s : State) : State :=
  { s with blu := { s.blu with sensor := .ok, rail := 0, recovery := 0, pushRun := 0, pullRun := 0 } }

/-- The 16th sample inside is worked as an ordinary sample of a part whose fault has ended (R27). -/
theorem exec_sample_of_recovery {s : State} {p : Int} (h : s.samples) (hs : s.blu.sensor = .fault)
    (hf : ¬ (rawOf p = -2048 ∨ rawOf p = 2047)) (hr : s.blu.recovery = 15) :
    s.faultEnded.samplesOrdinary p ∧ exec (.sample p) s = exec (.sample p) s.faultEnded ∧
      ((processSample (rawOf p) s.conversion).blu.sensor = .ok ∧
        (processSample (rawOf p) s.conversion).blu.recovery = 0 ∧ (processSample (rawOf p) s.conversion).blu.rail = 0) := by
  have hord : s.faultEnded.samplesOrdinary p := ⟨h, rfl, fun hfull => absurd hfull hf⟩
  have hjudged : judgedSample (rawOf p) s.conversion = judgedSample (rawOf p) s.faultEnded.conversion := by
    rw [judgedSample_of_ordinary hord, Bellows.railed, if_neg hf,
      judgedSample_of_recovery hs (fullScale_eq_false.mpr hf) hr]
    rfl
  have hok : (judgedSample (rawOf p) s.faultEnded.conversion).blu.sensor = .ok := by
    rw [judgedSample_of_ordinary hord]; rfl
  refine ⟨hord, ?_, ?_⟩
  · rw [exec_sample h, exec_sample hord.1, processSample_of_ok hok, processSample_of_ok (hjudged ▸ hok), hjudged]
  · obtain ⟨hrail, _, hsensor, _, _, _, hrecovery⟩ :=
      Bellows.test_settings (centred (rawOf p) s.blu.offset) (s.faultEnded.blu.railed (rawOf p))
    have hblu : (processSample (rawOf p) s.conversion).blu =
        (s.faultEnded.blu.railed (rawOf p)).test (centred (rawOf p) s.blu.offset) := by
      rw [processSample_blu, hjudged, if_pos hok, judgedSample_of_ordinary hord]; rfl
    rw [hblu, hrail, hsensor, hrecovery, Bellows.railed, if_neg hf]
    exact ⟨rfl, rfl, rfl⟩

/-- Settles O17: each clause is one outcome of the sensor test, and a sample that leaves the part in fault is a held one. -/
theorem sensorFaultIsEnteredHeldAndEnded : Obligations.SensorFaultIsEnteredHeldAndEnded := by
  intro s p hs full
  refine ⟨_, exec_sample hs, fun hok hfull hrail => ?_, fun hfault hfull => ?_, fun hfault hfull hr => ?_,
    fun hfault hfull hr => ?_, processSample_held⟩
  · have hj := judgedSample_of_rail hok (fullScale_iff.mpr hfull) hrail
    have hsensor : (judgedSample (rawOf p) s.conversion).blu.sensor = .fault := by rw [hj, enterFault_blu]
    have hblu := processSample_blu_of_fault hsensor
    rw [hj, enterFault_blu] at hblu
    refine ⟨by rw [hblu], by rw [hblu], by rw [hblu], fun c hc => ?_, fun hroom => ?_⟩
    · rw [hblu] at hc
      obtain ⟨_, _, rfl⟩ := Option.map_eq_some_iff.mp hc
      rfl
    · rw [processSample_of_fault hsensor, hj]
      exact (heldSample_aside _ _ fun _ => rfl).mpr (enterFault_reports (s := s.withBlu (s.blu.gathered (rawOf p))) hroom)
  · have hj := judgedSample_of_fault_full hfault (fullScale_iff.mpr hfull)
    rw [processSample_blu_of_fault (by rw [hj]; exact hfault), hj]
    exact ⟨hfault, rfl, rfl⟩
  · have hj := judgedSample_of_fault_inside hfault (fullScale_eq_false.mpr hfull) hr
    rw [processSample_blu_of_fault (by rw [hj]; exact hfault), hj]
    exact ⟨hfault, rfl, rfl⟩
  · obtain ⟨hord, hexec, hsensor, hrecovery, hrail⟩ := exec_sample_of_recovery hs hfault hfull hr
    exact ⟨hsensor, hrecovery, hrail, hord, hexec⟩

end Sys2Proof.Machine
end

section
/-! ## Reversals (R22, R23) -/

namespace Sys2Proof.Machine

/-! ### What the work on voices keeps

Voices are worked by four small steps: a NoteOn or a NoteOff becomes an entry, an attack is dropped, the tables are written. -/

/-- A relation that those four steps keep. -/
structure KeptByNotes (R : State → State → Prop) : Prop where
  refl : ∀ s, R s s
  trans : ∀ {s t u}, R s t → R t u → R s u
  noteOn : ∀ n q l c s, R s (pushSection n (.noteOn n q l c) s)
  noteOff : ∀ n q r s, R s (pushSection n (.noteOff n q r) s)
  dropAttack : ∀ s, R s (dropAttack s)
  withVal : ∀ x s, R s (s.withVal x)

namespace KeptByNotes

variable {R : State → State → Prop} (h : KeptByNotes R)

include h

theorem foldl {α : Type} {f : State → α → State} (step : ∀ s a, R s (f s a)) (l : List α) (s : State) :
    R s (l.foldl f s) :=
  foldl_keeps h.refl (fun _ _ _ => h.trans) step l s

theorem endVoice (r : NoteOffReason) (v : Fin 48) (s : State) : R s (endVoice r v s) :=
  h.trans (h.noteOff _ _ r s) (h.trans (t := removeFromLists v _) (h.withVal _ _) (h.withVal _ _))

theorem makeRoom (n : Fin 8) (s : State) : R s (makeRoom n s) := by
  rcases makeRoom_cases n s with hm | ⟨v, _, hm⟩ <;> rw [hm]
  · exact h.refl s
  · exact h.endVoice _ v s

theorem releaseVoice (r : NoteOffReason) (v : Fin 48) (s : State) : R s (releaseVoice r v s) := by
  unfold Machine.releaseVoice; dsimp only; split
  · exact h.withVal _ s
  · exact h.trans (h.noteOff _ _ r s) (h.withVal _ _)

theorem releaseKeyVoices (r : NoteOffReason) (k : Fin 192) (s : State) : R s (releaseKeyVoices r k s) :=
  h.trans (h.withVal _ s) (h.foldl (fun s (p : Pair) => h.releaseVoice r p.voice s) _ _)

theorem sound (k : Fin 192) (l n : Fin 8) (t : Nat) (c : NoteOnCause) (v : Fin 48) (s : State) :
    R s (sound k l n t c v s) :=
  h.trans (h.trans (h.trans (h.withVal _ s) (h.withVal _ _)) (h.withVal _ _)) (h.noteOn n t _ c _)

theorem shareVoice (k : Fin 192) (l : Fin 8) (v : Fin 48) (s : State) : R s (shareVoice k l v s) :=
  h.trans (h.withVal _ s) (h.withVal _ _)

theorem retrigger (k : Fin 192) (l n : Fin 8) (t : Nat) (v : Fin 48) (s : State) : R s (retrigger k l n t v s) := by
  unfold Machine.retrigger; split
  · exact h.trans (h.makeRoom n s) (h.sound ..)
  · exact h.dropAttack s

theorem newVoice (k : Fin 192) (l n : Fin 8) (t : Nat) (c : NoteOnCause) (s : State) : R s (newVoice k l n t c s) := by
  unfold Machine.newVoice; dsimp only
  repeat' split
  · exact h.trans (h.makeRoom n s) (h.sound ..)
  · exact h.trans (h.makeRoom n s) (h.dropAttack _)
  · exact h.dropAttack s

theorem placePitch (k : Fin 192) (l n : Fin 8) (c : NoteOnCause) (t : Nat) (s : State) : R s (placePitch k l n c t s) := by
  rcases placePitch_cases k l n c t s with he | he | ⟨_, ⟨v, _, _, _, he⟩ | ⟨v, _, _, he⟩ | he⟩ <;> rw [he]
  · exact h.refl s
  · exact h.dropAttack s
  · exact h.shareVoice k l v s
  · exact h.retrigger k l n t v s
  · exact h.newVoice k l n t c s

theorem placeLayer (k : Fin 192) (c : KeyClass) (cause : NoteOnCause) (p : Nat) (l : Fin 8) (s : State) :
    R s (placeLayer k c cause p l s) := by
  rcases placeLayer_cases k c cause p l s with he | ⟨n, t, he⟩ <;> rw [he]
  · exact h.refl s
  · exact h.placePitch k l n cause t s

theorem attack (k : Fin 192) (d : Side) (cause : NoteOnCause) (s : State) : R s (attack k d cause s) :=
  h.foldl (fun s p => h.foldl (fun s l => h.placeLayer k _ cause p l s) _ s) _ s

theorem reattack (r : NoteOffReason) (c : NoteOnCause) (d : Side) (k : Fin 192) (s : State) : R s (reattack r c d k s) :=
  h.trans (h.trans (h.releaseKeyVoices r k s) (h.attack k d c _)) (h.withVal _ _)

theorem revoice (d : Side) (s : State) : R s (revoice d s) := h.foldl (fun s k => h.reattack _ _ d k s) _ s

theorem rearticulate (p : Pair) (s : State) : R s (rearticulate p s) :=
  h.trans (h.trans (h.noteOff _ _ .reversal s) (h.noteOn _ _ _ .reversal _))
    (h.trans (t := setVoice p.voice _ _) (h.withVal _ _) (h.withVal _ _))

theorem carryPair (start : Nat) (p : Pair) (s : State) : R s (carryPair start p s) := by
  unfold Machine.carryPair
  repeat' split
  · exact h.rearticulate p s
  · exact h.dropAttack s
  · exact h.refl s

theorem carryKey (start : Nat) (d : Side) (k : Fin 192) (s : State) : R s (carryKey start d k s) := by
  unfold Machine.carryKey
  repeat' split
  · exact h.refl s
  · exact h.trans (h.foldl (fun s p => h.carryPair start p s) _ s) (h.withVal _ _)
  · exact h.reattack _ _ d k s

theorem carryAll (d : Side) (s : State) : R s (carryAll d s) := h.foldl (fun t k => h.carryKey s.evq.made d k t) _ s

/-- The handling of a reversal, which may begin with a commit. -/
theorem takeReversal (commit : ∀ p c o s, R s (commitLayers p c o s)) (d : Side) (s : State) : R s (takeReversal d s) := by
  unfold Machine.takeReversal; dsimp only
  repeat' split
  · exact h.trans (commit _ _ _ s) (h.revoice d _)
  · exact h.trans (commit _ _ _ s) (h.carryAll d _)
  · exact h.carryAll d s
  · exact h.carryAll d s

end KeptByNotes

/-! ### Entries that wait through it -/

/-- Every entry that waits still waits. -/
def EntriesWait (s t : State) : Prop := s.evq.entries ⊆ t.evq.entries

theorem EntriesWait.of_entries {s t : State} (h : t.evq.entries = s.evq.entries) : EntriesWait s t :=
  fun _ he => h ▸ he

theorem EntriesWait.trans {s t u : State} (h : EntriesWait s t) (k : EntriesWait t u) : EntriesWait s u := fun _ he => k (h he)

theorem EntriesWait.pushSection (n : Fin 8) (r : Report) (s : State) : EntriesWait s (pushSection n r s) :=
  fun _ he => mem_pushSection.mpr (.inr he)

theorem EntriesWait.offerGeneral (r : Report) {s t : State} (h : t.evq.entries = s.evq.entries) :
    EntriesWait s (offerGeneral r t) := by
  rcases offerGeneral_cases r t with ⟨_, he⟩ | ⟨_, he⟩ <;> rw [he]
  · exact fun _ hx => mem_pushGeneral.mpr (.inr (h ▸ hx))
  · exact .of_entries h

theorem EntriesWait.raiseFlag (f : StickyFlag) (s : State) : EntriesWait s (raiseFlag f s) := by
  rcases raiseFlag_cases f s with ⟨_, h⟩ | ⟨_, h⟩ <;> rw [h]
  · exact .of_entries rfl
  · exact .offerGeneral _ rfl

/-- The work on voices takes no entry from the queue. -/
theorem entriesWait_keptByNotes : KeptByNotes EntriesWait where
  refl _ := .of_entries rfl
  trans := .trans
  noteOn _ _ _ _ := EntriesWait.pushSection _ _
  noteOff _ _ _ := EntriesWait.pushSection _ _
  dropAttack := EntriesWait.raiseFlag _
  withVal _ _ := .of_entries rfl

theorem takeReversal_entriesWait (d : Side) (s : State) : EntriesWait s (takeReversal d s) :=
  entriesWait_keptByNotes.takeReversal (fun _ _ _ _ => EntriesWait.offerGeneral _ rfl) d s

/-- With nothing held and an empty slot a reversal finds nothing to do (R112, R135). -/
theorem takeReversal_of_silent {d : Side} {s : State} (hheld : s.val.held = []) (hslot : s.reg.slot = none) :
    takeReversal d s = s := by
  simp [takeReversal, hslot, carryAll, State.heldKeys, hheld]

/-! ### The Reversal report (R23, R154) -/

/-- The Reversal reports that wait are the same. -/
def ReversalsStand (s t : State) : Prop :=
  ∀ e : Entry, ∀ d, e.report = .reversal d → (e ∈ t.evq.entries ↔ e ∈ s.evq.entries)

section
variable {s t u : State}

theorem ReversalsStand.refl (s : State) : ReversalsStand s s := fun _ _ _ => .rfl

theorem ReversalsStand.trans (h : ReversalsStand s t) (k : ReversalsStand t u) : ReversalsStand s u :=
  fun e d he => (k e d he).trans (h e d he)

theorem ReversalsStand.of_entries (h : t.evq.entries = s.evq.entries) : ReversalsStand s t := fun _ _ _ => by rw [h]

theorem DynamicsAside.reversalsStand (h : DynamicsAside s t) : ReversalsStand s t :=
  fun e _ he => h e fun _ => by unfold Entry.isDynamicOf; rw [he]

end

/-- An occurrence makes no report but a Fault (R186). -/
theorem raiseFlag_reversalsStand (f : StickyFlag) (s : State) : ReversalsStand s (raiseFlag f s) := by
  rcases raiseFlag_cases f s with ⟨_, h⟩ | ⟨_, h⟩ <;> rw [h]
  · exact .of_entries rfl
  · rcases offerGeneral_cases (.fault (.sticky f)) (s.withStu ((s.stu.tally f).setFlag f)) with ⟨_, h⟩ | ⟨_, h⟩ <;>
      rw [h]
    · intro e d he
      refine mem_pushGeneral.trans (or_iff_right ?_)
      rintro rfl; cases he
    · exact .of_entries rfl

theorem forceStages_reversalsStand (c : Int) (s : State) : ReversalsStand s (forceStages c s) := by
  unfold forceStages; dsimp only; split
  · exact (raiseFlag_reversalsStand .clip s).trans (.of_entries rfl)
  · exact .of_entries rfl

theorem clipCentring_reversalsStand (raw : Int) (s : State) : ReversalsStand s (clipCentring raw s) := by
  unfold clipCentring; split
  · exact .refl s
  · exact raiseFlag_reversalsStand .clip s

theorem expressionSample_reversalsStand (c : Int) (s : State) : ReversalsStand s (expressionSample (some c) s) := by
  have hlevels : ReversalsStand (forceStages c s) (takeLevels (accentTest (accentCountdown (forceStages c s)))) :=
    .of_entries rfl
  exact ((forceStages_reversalsStand c s).trans hlevels).trans (testDynamics_aside _).reversalsStand

/-- A sample makes no Reversal report before a reversal is handed on (R23). -/
theorem heardSample_reversalsStand (raw : Int) (s : State) : ReversalsStand s (heardSample raw s) := by
  have htested : ReversalsStand (clipCentring raw s) ((clipCentring raw s).withBlu (s.blu.tested raw)) := .of_entries rfl
  exact ((clipCentring_reversalsStand raw s).trans htested).trans (expressionSample_reversalsStand _ _)

/-! ### The entries a sample needs: one Fault for CLIP and eight Dynamic reports -/

theorem offerGeneral_fill_le (r : Report) (s : State) : (offerGeneral r s).fill ≤ s.fill + 1 := by
  rcases offerGeneral_cases r s with ⟨_, h⟩ | ⟨_, h⟩ <;> rw [h]
  · exact (pushGeneral_fill r s).le
  · exact Nat.le_succ _

theorem handDynamic_fill_le (n : Fin 8) (s : State) : (handDynamic n s).fill ≤ s.fill + 1 := by
  unfold handDynamic; split
  · exact (replaceDynamic_fill n _ s).le.trans (Nat.le_succ _)
  · split
    · exact (pushSection_fill n (.dynamic n _) s).le
    · exact Nat.le_succ _

/-- A walk whose every step adds at most one entry adds at most one for each step. -/
theorem foldl_fill_le {α : Type} {f : State → α → State} (step : ∀ s a, (f s a).fill ≤ s.fill + 1) (l : List α)
    (s : State) : (l.foldl f s).fill ≤ s.fill + l.length := by
  induction l generalizing s with
  | nil => exact le_rfl
  | cons a l ih =>
    have := step s a
    have := ih (f s a)
    rw [List.foldl_cons, List.length_cons]; omega

theorem testDynamics_fill_le (s : State) : (testDynamics s).fill ≤ s.fill + 8 :=
  foldl_fill_le
    (fun s n => by
      unfold testDynamic; split
      · exact handDynamic_fill_le n s
      · exact Nat.le_succ _) _ s

theorem StatusUnit.isSet_tally (f g : StickyFlag) (u : StatusUnit) : (u.tally f).isSet g = u.isSet g := by
  cases f <;> rfl

theorem StatusUnit.isSet_setFlag (f : StickyFlag) (u : StatusUnit) : (u.setFlag f).isSet f = true := by
  have : (BitVec.ofNat 8 (2 ^ f.bit)).getLsbD f.bit = true := by cases f <;> rfl
  rw [StatusUnit.isSet, StatusUnit.setFlag, BitVec.getLsbD_or, this, Bool.or_true]

/-- The fill, with the entry that a clear CLIP may still need for its Fault report. -/
def State.clipFill (s : State) : Nat := s.fill + if s.stu.isSet .clip then 0 else 1

/-- However often CLIP occurs, the queue takes one Fault for it (R186). -/
theorem raiseFlag_clipFill_le (s : State) : (raiseFlag .clip s).clipFill ≤ s.clipFill := by
  have hstu := raiseFlag_sticky .clip s
  have hset : (raiseFlag .clip s).stu.isSet .clip = true := by
    rw [hstu]; split
    · rwa [StatusUnit.isSet_tally]
    · exact StatusUnit.isSet_setFlag ..
  rw [State.clipFill, State.clipFill, hset]
  rcases raiseFlag_cases .clip s with ⟨hs, h⟩ | ⟨hs, h⟩ <;> rw [h, hs]
  · exact le_rfl
  · exact offerGeneral_fill_le _ (s.withStu _)

theorem clipCentring_clipFill_le (raw : Int) (s : State) : (clipCentring raw s).clipFill ≤ s.clipFill := by
  unfold clipCentring; split
  · exact le_rfl
  · exact raiseFlag_clipFill_le s

theorem forceStages_clipFill_le (c : Int) (s : State) : (forceStages c s).clipFill ≤ s.clipFill := by
  unfold forceStages; dsimp only; split
  · exact raiseFlag_clipFill_le s
  · exact le_rfl

theorem expressionSample_fill_le (c : Int) (s : State) : (expressionSample (some c) s).fill ≤ s.clipFill + 8 := by
  have hlevels : ∀ u : State, (takeLevels (accentTest (accentCountdown u))).fill = u.fill := fun _ => rfl
  have htests := testDynamics_fill_le (takeLevels (accentTest (accentCountdown (forceStages c s))))
  rw [hlevels] at htests
  have hforce := forceStages_clipFill_le c s
  have hclip : (forceStages c s).fill ≤ (forceStages c s).clipFill := Nat.le_add_right ..
  exact htests.trans (by omega)

theorem heardSample_fill_le (raw : Int) (s : State) : (heardSample raw s).fill ≤ s.fill + 9 := by
  have hheard : (heardSample raw s).fill ≤ (clipCentring raw s).clipFill + 8 := expressionSample_fill_le _ _
  have hclip := clipCentring_clipFill_le raw s
  have hbound : s.clipFill ≤ s.fill + 1 := by unfold State.clipFill; split <;> omega
  omega

/-! ### The obligation -/

theorem reversalOf_eq_none {a b : Option Side} (h : a = none ∨ b = a) : reversalOf a b = none := by
  rcases h with rfl | rfl
  · rfl
  · cases b <;> simp [reversalOf]

theorem reversalOf_eq_some {a b : Option Side} {d : Side} (ha : a ≠ none) (hb : b = some d) (hd : a ≠ some d) :
    reversalOf a b = some d := by
  subst hb
  cases a with
  | none => exact absurd rfl ha
  | some a => exact if_neg fun h : a = d => hd (h ▸ rfl)

section
variable {s t : State}

theorem LevelsOnly.reg (h : LevelsOnly s t) : t.reg = s.reg := by rw [LevelsOnly] at h; rw [h]; rfl

theorem LevelsOnly.val (h : LevelsOnly s t) : t.val = s.val := by rw [LevelsOnly] at h; rw [h]; rfl

theorem PlayOnly.exu (h : PlayOnly s t) : t.exu = s.exu := by rw [PlayOnly] at h; rw [h]; rfl

theorem SampleOnly.tick (h : SampleOnly s t) : t.tick = s.tick := by rw [SampleOnly] at h; rw [h]

end

theorem heardSample_reg (raw : Int) (s : State) : (heardSample raw s).reg = s.reg :=
  (expressionSample_levelsOnly _ _).reg.trans (clipCentring_noticesOnly raw s).levels.reg

theorem heardSample_val (raw : Int) (s : State) : (heardSample raw s).val = s.val :=
  (expressionSample_levelsOnly _ _).val.trans (clipCentring_noticesOnly raw s).levels.val

/-- With room beside one Fault and eight Dynamic reports the Reversal report of a sample waits, due now (R23, R154). -/
theorem offerGeneral_heardSample_reports {raw : Int} {s : State} {d : Side} (h : s.soundingTotal + 10 ≤ 128 - s.fill) :
    ∃ e ∈ (offerGeneral (.reversal d) (heardSample raw s)).evq.entries, e.report = .reversal d ∧ e.due = s.tick := by
  have hsound : (heardSample raw s).soundingTotal = s.soundingTotal := by
    rw [State.soundingTotal, heardSample_val]; rfl
  have htick : (heardSample raw s).tick = s.tick := (heardSample_sampleOnly raw s).tick
  have hfill := heardSample_fill_le raw s
  generalize heardSample raw s = u at *
  refine ⟨_, offerGeneral_reports (r := .reversal d) (s := u) ?_, rfl, htick⟩
  rw [State.freeEntries, queueSize]; omega

/-- What the allocator is handed: the levels and the direction of this sample, on the part as it was (R23). -/
theorem ordinarySample_hands_on {raw : Int} {s : State} {d : Side}
    (h : reversalOf s.blu.direction (s.blu.tested raw).direction = some d) :
    ∃ u, ordinarySample raw s = takeReversal d u ∧
      u = { s with blu := (ordinarySample raw s).blu, exu := (ordinarySample raw s).exu, evq := u.evq, stu := u.stu } ∧
      (s.soundingTotal + 10 ≤ 128 - s.fill → ∃ e ∈ u.evq.entries, e.report = .reversal d ∧ e.due = s.tick) := by
  have hheard := heardSample_sampleOnly raw s
  rw [SampleOnly, heardSample_reg, heardSample_val] at hheard
  have hreports := offerGeneral_heardSample_reports (raw := raw) (s := s) (d := d)
  rw [ordinarySample_of_reversal h, handReversal]
  generalize heardSample raw s = y at *
  have hqueue := offerGeneral_queueOnly (.reversal d) y
  generalize offerGeneral (.reversal d) y = u at *
  have hplay := takeReversal_playOnly d u
  refine ⟨u, rfl, ?_, hreports⟩
  rw [hplay.rangesStand.blu, hplay.exu]
  rw [QueueOnly] at hqueue
  rw [hqueue, hheard]
  rfl

/-- Settles O16: without a reversal the sample ends with `heardSample`; a reversal's report joins the queue it leaves, and the
handling of the reversal takes no entry away. -/
theorem onlyAReversalIsHandedOn : Obligations.OnlyAReversalIsHandedOn := by
  intro s p ho
  have hblu := ordinarySample_blu (rawOf p) (s.withBlu (s.blu.railed (rawOf p)))
  have hreg := heardSample_reg (rawOf p) (s.withBlu (s.blu.railed (rawOf p)))
  have hval := heardSample_val (rawOf p) (s.withBlu (s.blu.railed (rawOf p)))
  have hstand := heardSample_reversalsStand (rawOf p) (s.withBlu (s.blu.railed (rawOf p)))
  refine ⟨_, exec_sample_of_ordinary ho, fun hnone => ?_, fun d hs ht hd => ?_⟩
  · rw [hblu] at hnone
    rw [ordinarySample_of_none (s := s.withBlu (s.blu.railed (rawOf p))) (reversalOf_eq_none hnone)]
    exact ⟨hreg, hval, fun d e he hr => (hstand e d hr).mp he⟩
  · rw [hblu] at ht
    obtain ⟨u, hhands, hu, hreports⟩ :=
      ordinarySample_hands_on (s := s.withBlu (s.blu.railed (rawOf p))) (reversalOf_eq_some hs ht hd)
    refine ⟨⟨u, hhands, hu, hreports⟩, fun hroom => ?_, fun hheld hslot => ?_⟩
    · obtain ⟨e, he, hreport⟩ := hreports hroom
      exact ⟨e, hhands ▸ takeReversal_entriesWait d u he, hreport⟩
    · have hreg : u.reg = s.reg := by rw [hu]; rfl
      have hval : u.val = s.val := by rw [hu]; rfl
      rw [hhands, takeReversal_of_silent (hval ▸ hheld) (hreg ▸ hslot)]
      exact ⟨hreg, hval⟩

end Sys2Proof.Machine
end

section
/-! ## The ranges of bellows, clock and handler: blocks and operations -/

namespace Sys2Proof.Machine

/-! ### The laws of the blocks -/

/-- The ranges of the bellows state (table at the head of chapter 2), of the block alone. -/
structure Bellows.InRange (b : Bellows) : Prop where
  offset : -255 ≤ b.offset ∧ b.offset ≤ 255
  hysteresis : 4 ≤ b.hysteresis ∧ b.hysteresis ≤ 512
  deadTime : 1 ≤ b.deadTime ∧ b.deadTime ≤ 32
  pushRun : b.pushRun ≤ b.deadTime
  pullRun : b.pullRun ≤ b.deadTime
  oneRun : b.pushRun = 0 ∨ b.pullRun = 0
  rail : b.rail < 32
  recovery : b.recovery < 16

/-- The ranges of the clock's state (table at the head of chapter 4) but for the deadline, which a beat event sets last. -/
structure Clock.CountsInRange (c : Clock) : Prop where
  period : c.period = 0 ∨ (2000 ≤ c.period ∧ c.period ≤ 20000)
  synthetic : c.synthetic ≤ 8
  beatInBar : c.beatInBar ≤ 16
  beatsPerBar : 1 ≤ c.beatsPerBar ∧ c.beatsPerBar ≤ 16
  coast : c.coast ≤ 8
  measured : c.phase.hasDeadline = true → c.period ≠ 0

/-- The ranges of the clock's state, of the block alone. -/
structure Clock.InRange (c : Clock) : Prop extends c.CountsInRange where
  deadline : c.deadline.isSome = c.phase.hasDeadline

/-- The handler, its slot and the inbound queue (R173, R176), with whether a collection is in progress. -/
structure Link.InStep (collecting : Bool) (l : Link) : Prop where
  slot : l.slot.isSome = true ↔ l.handler = .replyPending
  inFlight : collecting = true ↔ ∃ tag, l.handler = .inFlight tag
  inbound : l.inbound.length ≤ 4

/-- The three laws of a state. -/
structure RangesLegal (s : State) : Prop where
  bellows : s.blu.InRange
  clock : s.tck.InRange
  link : s.lnk.InStep s.blu.collection.isSome

theorem ClockPhase.hasDeadline_iff {p : ClockPhase} : p.hasDeadline = true ↔ p = .running ∨ p = .coasting := by
  cases p <;> simp [ClockPhase.hasDeadline]

theorem bellowsLegal_iff {s : State} : BellowsLegal s ↔ s.blu.InRange :=
  ⟨fun ⟨ho, hh, hd, hpush, hpull, hone, hrail, hrec⟩ => ⟨ho, hh, hd, hpush, hpull, hone, hrail, hrec⟩,
    fun ⟨ho, hh, hd, hpush, hpull, hone, hrail, hrec⟩ => ⟨ho, hh, hd, hpush, hpull, hone, hrail, hrec⟩⟩

theorem clockLegal_iff {s : State} : ClockLegal s ↔ s.tck.InRange := by
  rw [ClockLegal, ← ClockPhase.hasDeadline_iff, ← Bool.eq_iff_iff]
  exact ⟨fun ⟨hp, hs, hb, hB, hC, hd, hm⟩ => ⟨⟨hp, hs, hb, hB, hC, hm⟩, hd⟩,
    fun ⟨⟨hp, hs, hb, hB, hC, hm⟩, hd⟩ => ⟨hp, hs, hb, hB, hC, hd, hm⟩⟩

theorem handlerLegal_iff {s : State} : HandlerLegal s ↔ s.lnk.InStep s.blu.collection.isSome :=
  ⟨fun ⟨hs, hf, hi⟩ => ⟨hs, hf, hi⟩, fun ⟨hs, hf, hi⟩ => ⟨hs, hf, hi⟩⟩

theorem rangesLegal_iff {s : State} : RangesLegal s ↔ BellowsLegal s ∧ ClockLegal s ∧ HandlerLegal s := by
  rw [bellowsLegal_iff, clockLegal_iff, handlerLegal_iff]
  exact ⟨fun ⟨hb, hc, hl⟩ => ⟨hb, hc, hl⟩, fun ⟨hb, hc, hl⟩ => ⟨hb, hc, hl⟩⟩

section
variable {s t : State}

/-- An operation that leaves the three blocks leaves the laws. -/
theorem RangesLegal.of_stand (h : RangesLegal s) (hs : RangesStand s t) : RangesLegal t := by
  obtain ⟨hblu, htck, hlnk⟩ := hs
  refine ⟨?_, ?_, ?_⟩
  · rw [hblu]; exact h.bellows
  · rw [htck]; exact h.clock
  · rw [hblu, hlnk]; exact h.link

/-- An operation that keeps the unit in range and neither starts nor ends a collection leaves the laws. -/
theorem RangesLegal.of_sample (h : RangesLegal s) (hs : SampleOnly s t) (hb : t.blu.InRange)
    (hc : t.blu.collection.isSome = s.blu.collection.isSome) : RangesLegal t := by
  refine ⟨hb, ?_, ?_⟩
  · rw [hs.tck]; exact h.clock
  · rw [hs.lnk, hc]; exact h.link

theorem RangesLegal.withTck {c : Clock} (h : RangesLegal s) (hc : c.InRange) : RangesLegal (s.withTck c) :=
  ⟨h.bellows, hc, h.link⟩

theorem RangesLegal.withLnk {l : Link} (h : RangesLegal s) (hl : l.InStep s.blu.collection.isSome) :
    RangesLegal (s.withLnk l) := ⟨h.bellows, h.clock, hl⟩

/-! ### Bellows Unit -/

/-- With H above 0 a sample cannot move both run counters (R20). -/
theorem Bellows.InRange.count {b : Bellows} (h : b.InRange) (c : Int) : (b.count c).InRange := by
  refine { h with pushRun := ?_, pullRun := ?_, oneRun := ?_ }
  · show (if _ then _ else _) ≤ b.deadTime
    split
    · exact min_le_right ..
    · exact Nat.zero_le _
  · show (if _ then _ else _) ≤ b.deadTime
    split
    · exact min_le_right ..
    · exact Nat.zero_le _
  · have hh := h.hysteresis
    by_cases hpush : (b.hysteresis : Int) < c
    · exact .inr (if_neg (by omega))
    · exact .inl (if_neg hpush)

theorem Bellows.InRange.commitTo {b : Bellows} (h : b.InRange) (d : Side) : (b.commitTo d).InRange :=
  { h with pushRun := Nat.zero_le _, pullRun := Nat.zero_le _, oneRun := .inl rfl }

theorem Bellows.InRange.tested {b : Bellows} (h : b.InRange) (raw : Int) : (b.tested raw).InRange := by
  unfold Bellows.tested Bellows.test; split
  · exact (h.count _).commitTo _
  · exact h.count _

theorem Bellows.InRange.collected {b : Bellows} (h : b.InRange) (c : Option Collection) (t : Tick) :
    ({ b with collection := c, nextSample := t } : Bellows).InRange := { h with }

theorem sensorTest_inRange (raw : Int) (h : s.blu.InRange) : (sensorTest raw s).blu.InRange := by
  rcases sensorTest_cases raw s with he | ⟨n, hn, _, he⟩ | ⟨n, hn, _, he⟩ | he <;> rw [he]
  · rw [enterFault_blu]; exact { h with rail := (by decide : 0 < 32), recovery := (by decide : 0 < 16) }
  · exact { h with rail := hn }
  · exact { h with recovery := hn }
  · exact { h with
      pushRun := Nat.zero_le _, pullRun := Nat.zero_le _, oneRun := .inl rfl, rail := (by decide : 0 < 32)
      recovery := (by decide : 0 < 16) }

theorem judgedSample_collecting (raw : Int) (s : State) :
    (judgedSample raw s).blu.collection.isSome = s.blu.collection.isSome := by
  have hcollect : (collect raw s).blu.collection.isSome = s.blu.collection.isSome := Option.isSome_map
  rcases sensorTest_collection raw (collect raw s) with h | h
  · rw [judgedSample, h, hcollect]
  · rw [judgedSample, h, Option.isSome_map, hcollect]

theorem processSample_inRange (raw : Int) (h : s.blu.InRange) : (processSample raw s).blu.InRange := by
  have hjudged : (judgedSample raw s).blu.InRange := sensorTest_inRange raw (h.collected _ s.blu.nextSample)
  rw [processSample_blu]; split
  · exact hjudged.tested raw
  · exact hjudged

/-- A sample neither starts nor ends a collection. -/
theorem RangesLegal.processSample {raw : Int} (h : RangesLegal s) : RangesLegal (processSample raw s) :=
  h.of_sample (processSample_sampleOnly raw s) (processSample_inRange raw h.bellows)
    (by rw [processSample_collection, judgedSample_collecting])

/-- Every outcome of a calibration leaves an offset in range (R32). -/
theorem calibrationOutcome_inRange {o : Int} (h : -255 ≤ o ∧ o ≤ 255) (hyst : Nat) (c : Collection) :
    -255 ≤ (calibrationOutcome hyst o c).2 ∧ (calibrationOutcome hyst o c).2 ≤ 255 := by
  unfold calibrationOutcome offsetLimit
  split
  · exact h
  · split
    · exact h
    · split
      · decide
      · split
        · decide
        · constructor <;> dsimp only <;> omega

/-- The end of a calibration ends the collection and answers (R33). -/
theorem RangesLegal.endCalibration {tag : Byte} {c : Collection} (h : RangesLegal s) : RangesLegal (endCalibration tag c s) where
  bellows := { h.bellows with offset := calibrationOutcome_inRange h.bellows.offset _ c }
  clock := h.clock
  link := ⟨⟨fun _ => rfl, fun _ => rfl⟩, ⟨nofun, nofun⟩, h.link.inbound⟩

theorem setBellows_inRange (p : List Byte) (h : s.blu.InRange) : (setBellows p s).state.blu.InRange := by
  have hrun : ∀ {d n : Nat} {b : Bool}, n ≤ s.blu.deadTime → (b = true → d = s.blu.deadTime) →
      (if b then n else 0) ≤ d := fun hn hb => by
    split
    next hs => rw [hb hs]; exact hn
    · exact Nat.zero_le _
  have hsame : ∀ {h' d : Nat}, (h' == s.blu.hysteresis && d == s.blu.deadTime) = true → d = s.blu.deadTime := fun hs => by
    simp only [Bool.and_eq_true, beq_iff_eq] at hs; exact hs.2
  exact { h with
    hysteresis := clampNat_mem (by decide) _
    deadTime := clampNat_mem (by decide) _
    pushRun := hrun h.pushRun hsame
    pullRun := hrun h.pullRun hsame
    oneRun := h.oneRun.imp (fun h0 => by simp [setBellows, h0]) (fun h0 => by simp [setBellows, h0]) }

/-! ### Tempo Clock -/

/-- A beat event counts the beat in its bar and sets the deadline that belongs to the clock's state (R60, R62). -/
theorem Clock.CountsInRange.beat {c : Clock} (h : c.CountsInRange) (before : ClockPhase) : (c.beat before).InRange := by
  refine { h with beatInBar := ?_, deadline := ?_ }
  · have hB := h.beatsPerBar
    show nextBeatInBar before c ≤ 16
    unfold nextBeatInBar; split
    · decide
    next hn => simp only [Bool.or_eq_true, decide_eq_true_eq, not_or, not_le] at hn; omega
  · show (if _ then _ else _ : Option Tick).isSome = c.phase.hasDeadline
    cases c.phase.hasDeadline <;> rfl

theorem validInterval_some {now : Tick} {c : Clock} {n : Nat} (h : validInterval now c = some n) :
    2000 ≤ n ∧ n ≤ 20000 := by
  unfold validInterval at h
  split at h
  · obtain ⟨hd, hn⟩ := Option.ite_none_right_eq_some.mp h
    cases hn
    rw [shortestBeat, longestBeat] at hd
    omega
  · cases h

/-- A real beat measures a valid period or keeps the last, and starts running only with a measured one (R58, R59). -/
theorem Clock.InRange.realBeat {c : Clock} (h : c.InRange) (now : Tick) : (c.realBeat now).CountsInRange := by
  obtain ⟨i, hi⟩ : ∃ i, i = if c.phase = .stopped then none else validInterval now c := ⟨_, rfl⟩
  have hvalid : ∀ n, i = some n → 2000 ≤ n ∧ n ≤ 20000 := fun n hn => by
    rw [hi] at hn; split at hn
    · cases hn
    · exact validInterval_some hn
  have hperiod : (c.realBeat now).period = i.getD c.period := hi ▸ rfl
  have hphase : (c.realBeat now).phase = phaseAfterBeat c.phase i.isSome := hi ▸ rfl
  refine { h with period := ?_, synthetic := Nat.zero_le _, measured := ?_ }
  · rw [hperiod]
    cases i with
    | none => exact h.period
    | some n => exact .inr (hvalid n rfl)
  · rw [hperiod, hphase]
    cases i with
    | none =>
      intro hd
      refine h.measured ?_
      revert hd; cases c.phase <;> simp [phaseAfterBeat, ClockPhase.hasDeadline]
    | some n => have := hvalid n rfl; exact fun _ => by simp only [Option.getD_some]; omega

/-- A synthetic beat counts below C and keeps the period (R61). -/
theorem Clock.InRange.syntheticBeat {c : Clock} (h : c.InRange) (hs : c.synthetic < c.coast)
    (hp : c.phase.hasDeadline = true) : c.syntheticBeat.CountsInRange :=
  { h with
    synthetic := by have := h.coast; show c.synthetic + 1 ≤ 8; omega
    measured := fun _ => h.measured hp }

theorem Clock.InRange.stop {c : Clock} (h : c.InRange) : c.stop.InRange :=
  { h with measured := nofun, deadline := rfl }

theorem RangesLegal.beatEvent {p : ClockPhase} {c : Clock} (h : RangesLegal s) (hc : c.CountsInRange) :
    RangesLegal (beatEvent p c s) :=
  (h.withTck (hc.beat p)).of_stand (beatEvent_playOnly p c s).rangesStand

theorem RangesLegal.acceptBeat (h : RangesLegal s) : RangesLegal (acceptBeat s) := by
  unfold Machine.acceptBeat; split
  · exact h
  · exact h.beatEvent (h.clock.realBeat _)

theorem RangesLegal.meetDeadline (h : RangesLegal s) (hd : s.deadlineDue = true) : RangesLegal (meetDeadline s) := by
  have hrunning : s.tck.phase.hasDeadline = true := by
    obtain ⟨d, hsome, _⟩ := deadlineDue_iff.mp hd
    rw [← h.clock.deadline, hsome]; rfl
  unfold Machine.meetDeadline; split
  next hs => exact h.beatEvent (h.clock.syntheticBeat hs hrunning)
  · exact (h.withTck h.clock.stop).of_stand (reportPhase_queueOnly _ _).rangesStand

theorem setClock_inRange (p : List Byte) (h : s.tck.InRange) : (setClock p s).state.tck.InRange := by
  exact { h with beatsPerBar := clampNat_mem (by decide) _, coast := (clampNat_mem (lo := 0) (hi := 8) (by decide) _).2 }

/-! ### Link Controller -/

theorem RangesLegal.raiseFlag {f : StickyFlag} (h : RangesLegal s) : RangesLegal (raiseFlag f s) :=
  h.of_stand (raiseFlag_noticesOnly f s).rangesStand

theorem RangesLegal.setReceiver {r : Receiver} (h : RangesLegal s) : RangesLegal (setReceiver r s) :=
  h.withLnk { h.link with }

/-- A fifth frame is not queued (R172). -/
theorem RangesLegal.disposeFrame {f : Frame} (h : RangesLegal s) : RangesLegal (disposeFrame f s) := by
  unfold Machine.disposeFrame
  repeat' split
  · exact h
  · exact h.raiseFlag
  next hroom => exact h.withLnk { h.link with inbound := by simp only [List.length_append, List.length_singleton]; omega }

theorem RangesLegal.hunt (n : Nat) (bs : List Byte) (h : RangesLegal s) : RangesLegal (hunt n bs s) := by
  induction n generalizing bs s with
  | zero => exact h.setReceiver
  | succ n ih =>
    cases bs with
    | nil => exact h.setReceiver
    | cons b bs =>
      unfold Machine.hunt; dsimp only
      repeat' split
      · exact ih bs h
      · exact h.setReceiver
      · exact ih _ h.raiseFlag
      · exact h.setReceiver
      · exact ih _ h.disposeFrame
      · exact ih _ h.raiseFlag

theorem RangesLegal.abandon {f : StickyFlag} {held : List Byte} (h : RangesLegal s) : RangesLegal (abandon f held s) :=
  RangesLegal.hunt _ _ h.raiseFlag

theorem RangesLegal.completeFrame (h : RangesLegal s) : RangesLegal (completeFrame s) := by
  unfold Machine.completeFrame
  repeat' split
  · exact h
  · exact h.disposeFrame.setReceiver
  · exact h.abandon
  · exact h

theorem RangesLegal.takeByte {b : Byte} {low : Bool} (h : RangesLegal s) : RangesLegal (takeByte b low s) := by
  unfold Machine.takeByte; dsimp only
  repeat' split
  · exact h.setReceiver
  · exact h
  · exact h.abandon
  · exact h.abandon
  · exact h.setReceiver

/-- A reply taken leaves the handler IDLE; no collection is in progress while one waits (R176, R177). -/
theorem RangesLegal.chooseFrame (h : RangesLegal s) : RangesLegal (chooseFrame s) := by
  unfold Machine.chooseFrame
  repeat' split
  next f hf =>
    have hpending : s.lnk.handler = .replyPending := h.link.slot.mp (by rw [hf]; rfl)
    refine h.withLnk ⟨⟨nofun, nofun⟩, ⟨fun hc => ?_, nofun⟩, h.link.inbound⟩
    obtain ⟨tag, ht⟩ := h.link.inFlight.mp hc
    rw [hpending] at ht; cases ht
  next e _ _ => exact RangesLegal.withLnk (s := s.withEvq _) (h.of_stand ⟨rfl, rfl, rfl⟩) { h.link with }
  · exact h
  · exact h

end

end Sys2Proof.Machine
end

section
/-! ## The ranges of bellows, clock and handler: every command -/

namespace Sys2Proof.Machine

section
variable {s t : State}

/-! ### Requests taken and answered -/

/-- The frame that is taken leaves the queue. -/
theorem RangesLegal.withInbound {f : Frame} {rest : List Frame} (h : RangesLegal s) (hi : s.lnk.inbound = f :: rest) :
    RangesLegal { s with lnk := { s.lnk with inbound := rest } } := by
  have hlen := h.link.inbound
  rw [hi, List.length_cons] at hlen
  exact h.withLnk { h.link with inbound := by dsimp only; omega }

/-- A reply of an IDLE handler makes it REPLY_PENDING; no collection was in progress. -/
theorem RangesLegal.reply {f : Frame} {a : Answer} (h : RangesLegal a.state) (hi : a.state.lnk.handler = .idle) :
    RangesLegal (reply f a) := by
  refine RangesLegal.withLnk h ⟨⟨fun _ => rfl, fun _ => rfl⟩, ⟨fun hc => ?_, nofun⟩, h.link.inbound⟩
  obtain ⟨tag, ht⟩ := h.link.inFlight.mp hc
  rw [hi] at ht; cases ht

/-- A request whose owner keeps the laws and the link is answered within them. -/
theorem RangesLegal.serve {kind : Byte} {len : Nat} {owner : List Byte → State → Answer} (h : RangesLegal s)
    (he : serve kind len owner s = .next t)
    (keeps : ∀ p s, RangesLegal s → RangesLegal (owner p s).state ∧ (owner p s).state.lnk = s.lnk) : RangesLegal t := by
  rcases serve_cases he with rfl | ⟨tag, p, rest, ⟨_, hidle, hi⟩, hserved⟩
  · exact h
  · have hs := h.withInbound hi
    rcases hserved with ⟨_, rfl⟩ | ⟨_, rfl⟩
    · obtain ⟨howner, hlnk⟩ := keeps p _ hs
      exact howner.reply (by rw [hlnk]; exact hidle)
    · exact RangesLegal.reply hs hidle

/-- As it is with an owner that leaves the three blocks alone. -/
theorem RangesLegal.serve_of_stand {kind : Byte} {len : Nat} {owner : List Byte → State → Answer} (h : RangesLegal s)
    (he : Machine.serve kind len owner s = .next t) (stand : ∀ p s, RangesStand s (owner p s).state) : RangesLegal t :=
  h.serve he fun p s hs => ⟨hs.of_stand (stand p s), (stand p s).lnk⟩

/-- A command whose effect leaves the three blocks alone. -/
theorem RangesLegal.whileRunning_of_stand {effect : State → State} (h : RangesLegal s)
    (he : whileRunning effect s = .next t) (stand : RangesStand s (effect s)) : RangesLegal t :=
  whileRunning_keeps h he (h.of_stand stand)

/-! ### Owners that leave the three blocks alone -/

theorem RangesStand.withKsc (s : State) (x : Scanner) : RangesStand s (s.withKsc x) := ⟨rfl, rfl, rfl⟩
theorem RangesStand.withImap (s : State) (x : Vector KeyEntry 192) : RangesStand s (s.withImap x) := ⟨rfl, rfl, rfl⟩
theorem RangesStand.withExu (s : State) (x : Expression) : RangesStand s (s.withExu x) := ⟨rfl, rfl, rfl⟩
theorem RangesStand.withScn (s : State) (x : SectionControl) : RangesStand s (s.withScn x) := ⟨rfl, rfl, rfl⟩
theorem RangesStand.withReg (s : State) (x : Registration) : RangesStand s (s.withReg x) := ⟨rfl, rfl, rfl⟩
theorem RangesStand.withVal (s : State) (x : Allocator) : RangesStand s (s.withVal x) := ⟨rfl, rfl, rfl⟩
theorem RangesStand.withEvq (s : State) (x : EventQueue) : RangesStand s (s.withEvq x) := ⟨rfl, rfl, rfl⟩
theorem RangesStand.withStu (s : State) (x : StatusUnit) : RangesStand s (s.withStu x) := ⟨rfl, rfl, rfl⟩

theorem setScan_rangesStand (p : List Byte) (s : State) : RangesStand s (setScan p s).state := by
  unfold setScan; split
  · exact .refl s
  · exact .withKsc s _

theorem readKeys_rangesStand (p : List Byte) (s : State) : RangesStand s (readKeys p s).state := by
  unfold readKeys; dsimp only; split <;> exact .refl s

theorem writeSection_rangesStand (p : List Byte) (s : State) : RangesStand s (writeSection p s).state := by
  unfold writeSection; dsimp only
  split
  · split
    · exact (RangesStand.withScn s _).trans (stealToLimit_notesOnly _ _).rangesStand
    · exact .refl s
  · exact .refl s

theorem readSection_rangesStand (p : List Byte) (s : State) : RangesStand s (readSection p s).state := by
  unfold readSection; split <;> exact .refl s

theorem setReadiness_rangesStand (n : Fin 8) (r : Readiness) (s : State) : RangesStand s (setReadiness n r s) :=
  .withScn s _

theorem becomeReady_rangesStand (n : Fin 8) (s : State) : RangesStand s (becomeReady n s) :=
  (setReadiness_rangesStand n _ s).trans (reportReady_levelsOnly n _).rangesStand

theorem declareOff_rangesStand (n : Fin 8) (s : State) : RangesStand s (declareOff n s) := by
  unfold declareOff; split
  · exact (setReadiness_rangesStand n _ s).trans (endSection_notesOnly n _).rangesStand
  · exact setReadiness_rangesStand n _ s
  · exact setReadiness_rangesStand n _ s

theorem declareReady_rangesStand (n : Fin 8) (settle : Nat) (s : State) : RangesStand s (declareReady n settle s) := by
  have hnot : RangesStand s (if settle = 0 then becomeReady n s
      else setReadiness n (.settling (s.tick + BitVec.ofNat 32 (ticksOfMs settle))) s) := by
    split
    · exact becomeReady_rangesStand n s
    · exact setReadiness_rangesStand n _ s
  unfold declareReady; split
  · exact .refl s
  · exact hnot
  · exact hnot

theorem sectionReady_rangesStand (p : List Byte) (s : State) : RangesStand s (sectionReady p s).state := by
  unfold sectionReady; dsimp only
  repeat' split
  · exact .refl s
  · exact declareReady_rangesStand _ _ s
  · exact declareOff_rangesStand _ s
  · exact .refl s

theorem beginCut_rangesStand (c : CutCause) (s : State) : RangesStand s (beginCut c s) := by
  have hrecorded : RangesStand s (setCutRecord (some c) (setCut true s).liveVoices (endAllVoices (setCut true s))) :=
    ((RangesStand.withScn s _).trans (.withVal _ _)).trans (.withScn _ _)
  exact ((hrecorded.trans (.withEvq _ _)).trans (.withReg _ _)).trans (.withExu _ _)

theorem cutIfNormal_rangesStand (c : CutCause) (s : State) : RangesStand s (cutIfNormal c s) := by
  unfold cutIfNormal; split
  · exact .refl s
  · exact beginCut_rangesStand c s

theorem resume_rangesStand (p : List Byte) (s : State) : RangesStand s (resume p s).state := by
  have hresumed : RangesStand s (reportAllReady (setCut false s)) :=
    (RangesStand.withScn s _).trans (reportAllReady_levelsOnly _).rangesStand
  unfold resume; dsimp only
  split
  · split
    · exact .refl s
    · dsimp only; exact hresumed
  · exact .refl s

theorem selectRequest_rangesStand (p : List Byte) (s : State) : RangesStand s (selectRequest p s).state := by
  rcases selectRequest_state p s with he | ⟨q, c, he⟩ <;> rw [he]
  · exact .refl s
  · exact (select_playOnly q c _ s).rangesStand

theorem writeLayer_rangesStand (p : List Byte) (s : State) : RangesStand s (writeLayer p s).state := by
  unfold writeLayer; dsimp only
  split
  · exact .refl s
  · split
    · exact .withReg s _
    · exact .refl s

theorem readLayer_rangesStand (p : List Byte) (s : State) : RangesStand s (readLayer p s).state := by
  unfold readLayer; dsimp only
  repeat' split
  all_goals exact .refl s

theorem setPresetFlags_rangesStand (p : List Byte) (s : State) : RangesStand s (setPresetFlags p s).state := by
  unfold setPresetFlags
  split
  · exact .refl s
  · split
    · exact .withReg s _
    · exact .refl s

/-! ### WriteKeys, alone or between the events of a scan (R75) -/

theorem writeKeys_rangesStand (p : List Byte) (s : State) : RangesStand s (writeKeys p s).state := by
  obtain ⟨m, hm⟩ := writeKeys_state p s
  rw [hm]; exact .withImap s m

theorem RangesLegal.serveWriteKeys {f : Frame} (h : RangesLegal s) (hi : s.lnk.handler = .idle) :
    RangesLegal (serveWriteKeys f s) := by
  have hrefused : ∀ status data, RangesLegal (Machine.reply f { state := s, status := status, data := data }) :=
    fun _ _ => RangesLegal.reply h hi
  have hstand := writeKeys_rangesStand f.payload s
  unfold Machine.serveWriteKeys
  repeat' split
  · exact hrefused _ _
  · exact hrefused _ _
  · exact (h.of_stand hstand).reply (by rw [hstand.lnk]; exact hi)
  · exact hrefused _ _

theorem RangesLegal.takeWriteKeys (h : RangesLegal s) : RangesLegal (takeWriteKeys s) := by
  unfold Machine.takeWriteKeys takeWaiting State.nextRequest
  split
  next f hf =>
    split at hf
    next g rest hidle hi =>
      cases hf
      split
      · have hdrop : dropRequest s = { s with lnk := { s.lnk with inbound := rest } } := by
          simp [dropRequest, State.withLnk, hi]
        rw [hdrop]
        exact (h.withInbound hi).serveWriteKeys hidle
      · exact h
    · cases hf
  · exact h

theorem execWriteKeys_keeps_ranges (h : RangesLegal s) (he : execWriteKeys s = .next t) : RangesLegal t :=
  whileRunning_keeps h he h.takeWriteKeys

theorem RangesLegal.completeScan {r : Readings} {w : Option Nat} (h : RangesLegal s) : RangesLegal (completeScan r w s) := by
  have hroute : ∀ (es : List KeyEvent) t, RangesLegal t → RangesLegal (es.foldl routeEvent t) := fun es t ht =>
    ht.of_stand (routeEvents_playOnly es t).rangesStand
  have hksc : ∀ k, RangesLegal (s.withKsc k) := fun k => h.of_stand (.withKsc s k)
  have hroutes : ∀ (es : List KeyEvent) t, RangesLegal t → RangesLegal (routeEvents w es t) := fun es t ht => by
    cases w with
    | none => exact hroute es t ht
    | some n => exact hroute _ _ (hroute _ t ht).takeWriteKeys
  unfold Machine.completeScan; split
  · exact hksc _
  · exact hroutes _ _ (hksc _)
  · exact hroutes _ _ (hksc _)

/-! ### Resets -/

/-- The hard reset values are in range (R35, R67, R180). -/
theorem rangesLegal_released (cause : ResetCause) (rate : LineRate) (cut : Bool) (picks : Nat) (pending : List Instr) :
    RangesLegal (State.released cause rate cut picks pending) :=
  have hreset : RangesLegal State.reset := rangesLegal_iff.mpr ⟨by decide, by decide, reset_handlerLegal⟩
  ⟨hreset.bellows, hreset.clock, ⟨⟨nofun, nofun⟩, ⟨nofun, nofun⟩, Nat.zero_le _⟩⟩

/-- Behind the clock a soft reset works on other blocks (R157). -/
theorem softReset_rangesStand (s : State) : RangesStand (softClock (softExpression (softBellows s))) (softReset s) := by
  have hsections : ∀ u, RangesStand u (softSections u) := fun u => (RangesStand.withScn u _).trans (.withScn _ _)
  have hvoices : ∀ u, RangesStand u (softAllocator u) := fun u => (RangesStand.withVal u _).trans (.withVal _ _)
  exact ((((hsections _).trans (.withReg _ _)).trans (hvoices _)).trans (.withStu _ _)).trans (.withEvq _ _)

/-- A soft reset that finds no Calibrate in flight ends no collection (R35, R67, R179). -/
theorem RangesLegal.softReset (h : RangesLegal s) (hi : ∀ tag, s.lnk.handler ≠ .inFlight tag) :
    RangesLegal (softReset s) := by
  have hbellows : RangesLegal (softBellows s) :=
    ⟨{ h.bellows with pushRun := Nat.zero_le _, pullRun := Nat.zero_le _, oneRun := .inl rfl }, h.clock,
      { h.link with inFlight := ⟨nofun, fun ⟨tag, ht⟩ => absurd ht (hi tag)⟩ }⟩
  have hexpression : RangesLegal (softExpression (softBellows s)) := hbellows.of_stand (.withExu _ _)
  have hclock : RangesLegal (softClock (softExpression (softBellows s))) :=
    hexpression.withTck { h.clock with
      period := .inl rfl, synthetic := Nat.zero_le _, beatInBar := Nat.zero_le _, measured := nofun, deadline := rfl }
  exact hclock.of_stand (softReset_rangesStand s)

/-! ### The commands with a law at stake -/

theorem execCalibrate_keeps_ranges (h : RangesLegal s) (he : execCalibrate s = .next t) : RangesLegal t := by
  rcases takeRequest_cases he with rfl | ⟨f, rest, ⟨_, hidle, hi⟩, _, rfl⟩
  · exact h
  · have hs := h.withInbound hi
    split
    · have hslot : s.lnk.slot.isSome = false := by
        rw [← Bool.not_eq_true, h.link.slot, hidle]; decide
      exact ⟨{ hs.bellows with }, hs.clock,
        ⟨⟨fun hc => absurd (hslot.symm.trans hc) (by decide), nofun⟩, ⟨fun _ => ⟨f.tag, rfl⟩, fun _ => rfl⟩,
          hs.link.inbound⟩⟩
    · exact RangesLegal.reply hs hidle

theorem execUnknownRequest_keeps_ranges (h : RangesLegal s) (he : execUnknownRequest s = .next t) : RangesLegal t := by
  rcases takeRequest_cases he with rfl | ⟨f, rest, ⟨_, hidle, hi⟩, _, rfl⟩
  · exact h
  · exact RangesLegal.reply (h.withInbound hi) hidle

theorem execReset_keeps_ranges (h : RangesLegal s) (he : execReset s = .next t) : RangesLegal t := by
  rcases takeRequest_cases he with rfl | ⟨f, rest, ⟨_, hidle, hi⟩, _, rfl⟩
  · exact h
  · have hreply : ∀ status,
        RangesLegal (reply f { state := { s with lnk := { s.lnk with inbound := rest } }, status := status, data := [] }) :=
      fun _ => RangesLegal.reply (h.withInbound hi) hidle
    split
    · exact (hreply _).softReset nofun
    · exact hreply _

theorem execSample_keeps_ranges {p : Int} (h : RangesLegal s) (he : execSample p s = .next t) : RangesLegal t := by
  unfold execSample at he
  refine whileRunning_keeps h he ?_
  split
  · exact RangesLegal.processSample ⟨{ h.bellows with }, h.clock, h.link⟩
  · exact h

theorem execCalibrationEnd_keeps_ranges (h : RangesLegal s) (he : execCalibrationEnd s = .next t) : RangesLegal t := by
  unfold execCalibrationEnd at he
  refine whileRunning_keeps h he ?_
  split
  · exact h.endCalibration
  · exact h

/-- A line's sample or edge leaves the clock's ranges. -/
theorem RangesLegal.withLines {a b : LineFilter} {m : Bool} (h : RangesLegal s) :
    RangesLegal (s.withTck { s.tck with beatLine := a, barLine := b, barMark := m }) :=
  h.withTck { h.clock with }

theorem execClickLineSample_keeps_ranges {a b : Bool} (h : RangesLegal s) (he : execClickLineSample a b s = .next t) :
    RangesLegal t := whileRunning_keeps h he h.withLines

theorem execBeatEdge_keeps_ranges (h : RangesLegal s) (he : execBeatEdge s = .next t) : RangesLegal t := by
  unfold execBeatEdge at he
  refine whileRunning_keeps h he ?_
  split
  · exact RangesLegal.acceptBeat h.withLines
  · exact h

theorem execBarEdge_keeps_ranges (h : RangesLegal s) (he : execBarEdge s = .next t) : RangesLegal t := by
  unfold execBarEdge at he
  refine whileRunning_keeps h he ?_
  split
  · exact h.withLines
  · exact h

theorem execLastRealBeatAbsent_keeps_ranges (h : RangesLegal s) (he : execLastRealBeatAbsent s = .next t) :
    RangesLegal t := by
  unfold execLastRealBeatAbsent at he
  refine whileRunning_keeps h he ?_
  split
  · exact h.withTck { h.clock with }
  · exact h

theorem execDeadline_keeps_ranges (h : RangesLegal s) (he : execDeadline s = .next t) : RangesLegal t := by
  unfold execDeadline at he
  refine whileRunning_keeps h he ?_
  split
  next hd => exact h.meetDeadline hd
  · exact h

/-! ### The commands of the link -/

theorem execByteArrival_keeps_ranges {b : Byte} {low : Bool} (h : RangesLegal s) (he : execByteArrival b low s = .next t) :
    RangesLegal t := whileRunning_keeps h he h.completeFrame.takeByte

theorem execFrameComplete_keeps_ranges (h : RangesLegal s) (he : execFrameComplete s = .next t) : RangesLegal t :=
  whileRunning_keeps h he h.completeFrame

theorem execGap_keeps_ranges (h : RangesLegal s) (he : execGap s = .next t) : RangesLegal t := by
  unfold execGap at he
  refine whileRunning_keeps h he ?_
  split
  · exact h.abandon
  · exact h

theorem execTransmit_keeps_ranges (h : RangesLegal s) (he : execTransmit s = .next t) : RangesLegal t := by
  unfold execTransmit at he
  refine whileRunning_keeps h he ?_
  split
  · exact h.chooseFrame
  · exact h

theorem execFrameSent_keeps_ranges (h : RangesLegal s) (he : execFrameSent s = .next t) : RangesLegal t := by
  unfold execFrameSent at he
  refine whileRunning_keeps h he ?_
  split
  · exact h
  · exact RangesLegal.chooseFrame (h.withLnk { h.link with })

/-! ### The other commands -/

theorem execResetRelease_keeps_ranges {a b c : Bool} (h : RangesLegal s) (he : execResetRelease a b c s = .next t) :
    RangesLegal t := by
  unfold execResetRelease at he
  split at he
  · cases he; exact rangesLegal_released ..
  · cases he; exact h

theorem execScanStart_keeps_ranges (h : RangesLegal s) (he : execScanStart s = .next t) : RangesLegal t := by
  refine h.whileRunning_of_stand he ?_
  split
  · exact .withKsc s _
  · exact .refl s

theorem execScanCompletion_keeps_ranges {r : ScanResult} (h : RangesLegal s) (he : execScanCompletion r s = .next t) :
    RangesLegal t := by
  unfold execScanCompletion at he
  refine whileRunning_keeps h he ?_
  split
  · exact h.completeScan
  · exact h

theorem execScanBoundary_keeps_ranges (h : RangesLegal s) (he : execScanBoundary s = .next t) : RangesLegal t :=
  h.whileRunning_of_stand he (.withKsc s _)

theorem execReinitialisationWindowEnd_keeps_ranges (h : RangesLegal s) (he : execReinitialisationWindowEnd s = .next t) :
    RangesLegal t := by
  refine h.whileRunning_of_stand he ?_
  split
  · exact .withKsc s _
  · exact .refl s

theorem execCutLineSample_keeps_ranges {b : Bool} (h : RangesLegal s) (he : execCutLineSample b s = .next t) :
    RangesLegal t := by
  refine h.whileRunning_of_stand he ?_
  split
  · exact .withScn s _
  · exact .refl s

theorem execCutEdge_keeps_ranges (h : RangesLegal s) (he : execCutEdge s = .next t) : RangesLegal t := by
  refine h.whileRunning_of_stand he ?_
  split
  · exact (RangesStand.withScn s _).trans (cutIfNormal_rangesStand _ _)
  · exact .refl s

theorem execSettleExpiry_keeps_ranges {n : Nat} (h : RangesLegal s) (he : execSettleExpiry n s = .next t) :
    RangesLegal t := by
  refine h.whileRunning_of_stand he ?_
  split
  · split
    · split
      · exact becomeReady_rangesStand _ s
      · exact .refl s
    · exact .refl s
    · exact .refl s
  · exact .refl s

theorem execReleaseExpiry_keeps_ranges {v : Nat} (h : RangesLegal s) (he : execReleaseExpiry v s = .next t) :
    RangesLegal t := by
  refine h.whileRunning_of_stand he ?_
  split
  · split
    · split
      · exact .withVal s _
      · exact .refl s
    · exact .refl s
    · exact .refl s
  · exact .refl s

end

/-! ### Every command and every step -/

/-- Every command keeps the laws of the ranges. -/
theorem exec_keeps_ranges (i : Instr) {s t : State} (h : RangesLegal s) (he : exec i s = .next t) : RangesLegal t := by
  cases i with
  | hardReset c => cases he; exact ⟨h.bellows, h.clock, { h.link with }⟩
  | resetRelease a b c => exact execResetRelease_keeps_ranges h he
  | scanStart => exact execScanStart_keeps_ranges h he
  | scanCompletion r => exact execScanCompletion_keeps_ranges h he
  | scanBoundary => exact execScanBoundary_keeps_ranges h he
  | reinitialisationWindowEnd => exact execReinitialisationWindowEnd_keeps_ranges h he
  | sample p => exact execSample_keeps_ranges h he
  | calibrationEnd => exact execCalibrationEnd_keeps_ranges h he
  | beatEdge => exact execBeatEdge_keeps_ranges h he
  | barEdge => exact execBarEdge_keeps_ranges h he
  | lastRealBeatAbsent => exact execLastRealBeatAbsent_keeps_ranges h he
  | deadline => exact execDeadline_keeps_ranges h he
  | cutEdge => exact execCutEdge_keeps_ranges h he
  | settleExpiry n => exact execSettleExpiry_keeps_ranges h he
  | releaseExpiry v => exact execReleaseExpiry_keeps_ranges h he
  | byteArrival b low => exact execByteArrival_keeps_ranges h he
  | gap => exact execGap_keeps_ranges h he
  | frameComplete => exact execFrameComplete_keeps_ranges h he
  | unknownRequest => exact execUnknownRequest_keeps_ranges h he
  | calibrate => exact execCalibrate_keeps_ranges h he
  | writeKeys => exact execWriteKeys_keeps_ranges h he
  | reset => exact execReset_keeps_ranges h he
  | transmit => exact execTransmit_keeps_ranges h he
  | frameSent => exact execFrameSent_keeps_ranges h he
  | cutLineSample b => exact execCutLineSample_keeps_ranges h he
  | clickLineSample a b => exact execClickLineSample_keeps_ranges h he
  | setScan => exact h.serve_of_stand he setScan_rangesStand
  | setBellows => exact h.serve he fun p _ h => ⟨⟨setBellows_inRange p h.bellows, h.clock, h.link⟩, rfl⟩
  | setExpression => exact h.serve_of_stand he fun _ s => .withExu s _
  | setClock => exact h.serve he fun p _ h => ⟨h.withTck (setClock_inRange p h.clock), rfl⟩
  | readKeys => exact h.serve_of_stand he readKeys_rangesStand
  | writeSection => exact h.serve_of_stand he writeSection_rangesStand
  | readSection => exact h.serve_of_stand he readSection_rangesStand
  | sectionReady => exact h.serve_of_stand he sectionReady_rangesStand
  | cutRequest => exact h.serve_of_stand he fun _ s => cutIfNormal_rangesStand _ s
  | resume => exact h.serve_of_stand he resume_rangesStand
  | selectPreset => exact h.serve_of_stand he selectRequest_rangesStand
  | cancelPending => exact h.serve_of_stand he fun _ s => .withReg s _
  | writeLayer => exact h.serve_of_stand he writeLayer_rangesStand
  | readLayer => exact h.serve_of_stand he readLayer_rangesStand
  | setPresetFlags => exact h.serve_of_stand he setPresetFlags_rangesStand
  | status => exact h.serve_of_stand he fun _ s => .refl s
  | clearFlags => exact h.serve_of_stand he fun _ s => .withStu s _

/-- Settles O59: the three laws are laws of blocks (`RangesLegal`); most commands leave the blocks, and each operation that writes
one keeps its law. -/
theorem everyStepKeepsTheRanges : Obligations.EveryStepKeepsTheRanges := by
  intro s t hb hc hl hstep
  have hs := rangesLegal_iff.mpr ⟨hb, hc, hl⟩
  refine rangesLegal_iff.mp ?_
  rcases step_cases hstep with ⟨i, picks, pending, he⟩ | rfl
  · exact exec_keeps_ranges i (hs.of_stand (t := { s with picks := picks, pending := pending }) ⟨rfl, rfl, rfl⟩) he
  · rcases passTick_cases s with ⟨_, _, he⟩ | ⟨_, he⟩ <;> rw [he]
    · exact hs.of_stand ⟨rfl, rfl, rfl⟩
    · exact hs

end Sys2Proof.Machine
end

section
/-! ## The ranges of force and levels: arithmetic and the Expression Unit (R37 to R44) -/

namespace Sys2Proof.Machine

/-! ### Smoothing and interpolation stay between their ends -/

/-- A floor division by a positive number moves no further than its dividend. -/
theorem ediv_between (x : Int) {d : Int} (hd : 0 < d) : min x 0 ≤ x / d ∧ x / d ≤ max x 0 := by
  rcases le_total 0 x with hx | hx
  · rw [min_eq_right hx, max_eq_left hx]
    exact ⟨Int.ediv_nonneg hx hd.le, Int.ediv_le_self d hx⟩
  · rw [min_eq_left hx, max_eq_right hx]
    refine ⟨(Int.le_ediv_iff_mul_le hd).mpr ?_, Int.ediv_nonpos_of_nonpos_of_neg hx hd⟩
    nlinarith

/-- The step of R40 in whole numbers: it never goes below zero. -/
theorem smoothStep_eq (k e f : Nat) : (smoothStep k e f : Int) = e + ((f : Int) - e) / (2 ^ k : Nat) := by
  have := (ediv_between ((f : Int) - e) (d := (2 ^ k : Nat)) (by positivity)).1
  exact Int.toNat_of_nonneg (by omega)

theorem smoothStep_le {k e f b : Nat} (he : e ≤ b) (hf : f ≤ b) : smoothStep k e f ≤ b := by
  have := (ediv_between ((f : Int) - e) (d := (2 ^ k : Nat)) (by positivity)).2
  have := smoothStep_eq k e f
  omega

/-- A part of a distance, rounded toward zero, lies between nothing and the whole distance. -/
theorem tdiv_between (x : Int) {u : Nat} (hu : u < 512) :
    min x 0 ≤ (x * u).tdiv 512 ∧ (x * u).tdiv 512 ≤ max x 0 := by
  have hpart : ∀ y : Int, 0 ≤ y → 0 ≤ (y * u).tdiv 512 ∧ (y * u).tdiv 512 ≤ y := fun y hy => by
    have hyu : 0 ≤ y * u := by positivity
    rw [Int.tdiv_eq_ediv_of_nonneg hyu]
    exact ⟨Int.ediv_nonneg hyu (by decide), Int.ediv_le_of_le_mul (by decide) (by nlinarith)⟩
  rcases le_total 0 x with hx | hx
  · rw [min_eq_right hx, max_eq_left hx]; exact hpart x hx
  · have := hpart (-x) (by omega)
    rw [Int.neg_mul, Int.neg_tdiv] at this
    omega

/-- A curve point, 0 beyond the last (R43, R44). -/
def curvePoint (curve : Vector Nat 9) (i : Nat) : Nat := curve.toList.getD i 0

/-- The straight line of R44 in whole numbers: it never goes below zero. -/
theorem levelOf_eq (curve : Vector Nat 9) (e : Nat) :
    (levelOf curve e : Int) =
      curvePoint curve (e / 512) +
        (((curvePoint curve (e / 512 + 1) : Int) - curvePoint curve (e / 512)) * (e % 512 : Nat)).tdiv 512 := by
  have := (tdiv_between ((curvePoint curve (e / 512 + 1) : Int) - curvePoint curve (e / 512))
    (Nat.mod_lt e (by decide : 0 < 512))).1
  exact Int.toNat_of_nonneg (by unfold curvePoint at this; omega)

theorem curvePoint_le {curve : Vector Nat 9} (h : CurveLegal curve) (i : Nat) : curvePoint curve i ≤ 255 := by
  unfold curvePoint
  by_cases hi : i < 9
  · have := h ⟨i, hi⟩
    rwa [List.getD_eq_getElem _ _ (by simpa using hi), Vector.getElem_toList]
  · rw [List.getD_eq_default _ _ (by simpa using hi)]; exact Nat.zero_le _

/-- A curve of levels gives levels. -/
theorem levelOf_le {curve : Vector Nat 9} (h : CurveLegal curve) (e : Nat) : levelOf curve e ≤ 255 := by
  have heq := levelOf_eq curve e
  have hlo := curvePoint_le h (e / 512)
  have hhi := curvePoint_le h (e / 512 + 1)
  have := (tdiv_between ((curvePoint curve (e / 512 + 1) : Int) - curvePoint curve (e / 512))
    (Nat.mod_lt e (by decide : 0 < 512))).2
  omega

/-! ### The laws of the blocks -/

/-- What the Expression Unit keeps for a section is in range (R44). -/
structure Dynamics.InRange (d : Dynamics) : Prop where
  level : d.level ≤ 255
  last : d.last ≤ 255
  curve : CurveLegal d.curve

/-- The ranges of the Expression Unit's state (table at the head of chapter 3), of the block alone. -/
structure Expression.InRange (x : Expression) : Prop where
  force : x.force ≤ 4095
  smoothed : x.smoothed ≤ 4095
  samples : x.history.length = 8
  history : ∀ f ∈ x.history, f ≤ 4095
  sections : ∀ n : Fin 8, x.sections[n].InRange

/-- The laws of the levels: those of the unit, and the curves it takes its levels from (R80). -/
structure LevelsLegal (s : State) : Prop where
  unit : s.exu.InRange
  curves : ∀ n : Fin 8, CurveLegal s.scn.records[n].curve

theorem levelsInRange_iff {s : State} : LevelsInRange s ↔ LevelsLegal s :=
  ⟨fun ⟨hf, he, hl, hh, hs, hc⟩ => ⟨⟨hf, he, hl, hh, fun n => ⟨(hs n).1, (hs n).2.1, (hs n).2.2⟩⟩, hc⟩,
    fun ⟨⟨hf, he, hl, hh, hs⟩, hc⟩ => ⟨hf, he, hl, hh, fun n => ⟨(hs n).level, (hs n).last, (hs n).curve⟩, hc⟩⟩

/-- The Expression Unit and the section records stand. -/
structure LevelsStand (s t : State) : Prop where
  exu : t.exu = s.exu
  records : t.scn.records = s.scn.records

section
variable {s t u : State}

theorem LevelsStand.refl (s : State) : LevelsStand s s := ⟨rfl, rfl⟩

theorem LevelsStand.trans (h : LevelsStand s t) (k : LevelsStand t u) : LevelsStand s u :=
  ⟨k.exu.trans h.exu, k.records.trans h.records⟩

theorem PlayOnly.levelsStand (h : PlayOnly s t) : LevelsStand s t := by
  rw [PlayOnly] at h; rw [h]; exact ⟨rfl, rfl⟩

theorem NotesOnly.levelsStand (h : NotesOnly s t) : LevelsStand s t := h.play.levelsStand

theorem NoticesOnly.levelsStand (h : NoticesOnly s t) : LevelsStand s t := h.notes.levelsStand

theorem QueueOnly.levelsStand (h : QueueOnly s t) : LevelsStand s t := h.notices.levelsStand

theorem LinkOnly.levelsStand (h : LinkOnly s t) : LevelsStand s t := by
  rw [LinkOnly] at h; rw [h]; exact ⟨rfl, rfl⟩

theorem LevelsLegal.of_stand (h : LevelsLegal s) (hs : LevelsStand s t) : LevelsLegal t := by
  obtain ⟨hexu, hrecords⟩ := hs
  exact ⟨by rw [hexu]; exact h.unit, by rw [hrecords]; exact h.curves⟩

theorem LevelsLegal.withExu {x : Expression} (h : LevelsLegal s) (hx : x.InRange) : LevelsLegal (s.withExu x) :=
  ⟨hx, h.curves⟩

/-! ### Dynamic reports (R46, R151) -/

section
variable {n : Fin 8}

/-- A Dynamic entry that waits takes the level in place. -/
theorem handDynamic_of_waiting (h : s.holdsDynamic n = true) :
    handDynamic n s = markReported n (replaceDynamic n s.exu.sections[n].level s) := if_pos h

/-- With none waiting, a new entry joins the queue that has room for it. -/
theorem handDynamic_of_room (h : s.holdsDynamic n = false) (hroom : s.soundingTotal + 1 ≤ s.freeEntries) :
    handDynamic n s = markReported n (pushSection n (.dynamic n s.exu.sections[n].level) s) := by
  have hadmits : s.admitsGeneral = true := decide_eq_true hroom
  rw [handDynamic, h, hadmits]; rfl

/-- A report that is refused changes nothing. -/
theorem handDynamic_of_full (h : s.holdsDynamic n = false) (hfull : s.freeEntries < s.soundingTotal + 1) :
    handDynamic n s = s := by
  have hadmits : s.admitsGeneral = false := decide_eq_false (not_le.mpr hfull)
  rw [handDynamic, h, hadmits]; rfl

end

/-- Everything that handing a level on can do: nothing, or the queue changes and the level is the last reported one. -/
theorem handDynamic_cases (n : Fin 8) (s : State) :
    handDynamic n s = s ∨ ∃ u, QueueOnly s u ∧ handDynamic n s = markReported n u := by
  cases hold : s.holdsDynamic n with
  | true => exact .inr ⟨_, replaceDynamic_queueOnly .., handDynamic_of_waiting hold⟩
  | false =>
    rcases Nat.lt_or_ge s.freeEntries (s.soundingTotal + 1) with hfull | hroom
    · exact .inl (handDynamic_of_full hold hfull)
    · exact .inr ⟨_, pushSection_queueOnly .., handDynamic_of_room hold hroom⟩

/-- A last reported level that follows moves for one section alone. -/
theorem markReported_get (n m : Fin 8) (s : State) :
    (markReported n s).exu.sections[m] =
      if n = m then { s.exu.sections[n] with last := s.exu.sections[n].level } else s.exu.sections[m] := by
  simp [markReported, Vector.getElem_set, Fin.ext_iff]

theorem LevelsLegal.markReported {n : Fin 8} (h : LevelsLegal s) : LevelsLegal (markReported n s) := by
  refine ⟨{ h.unit with sections := fun m => ?_ }, h.curves⟩
  rw [markReported_get]; split
  · exact { h.unit.sections n with last := (h.unit.sections n).level }
  · exact h.unit.sections m

theorem LevelsLegal.handDynamic {n : Fin 8} (h : LevelsLegal s) : LevelsLegal (handDynamic n s) := by
  rcases handDynamic_cases n s with he | ⟨u, hu, he⟩ <;> rw [he]
  · exact h
  · exact (h.of_stand hu.levelsStand).markReported

theorem LevelsLegal.testDynamics (h : LevelsLegal s) : LevelsLegal (testDynamics s) :=
  List.foldlRecOn _ _ h fun t ht n _ => by
    unfold testDynamic; split
    · exact ht.handDynamic
    · exact ht

theorem LevelsLegal.reportAllReady (h : LevelsLegal s) : LevelsLegal (reportAllReady s) :=
  List.foldlRecOn _ _ h fun t ht n _ => by
    split
    · exact ht.handDynamic
    · exact ht

theorem LevelsLegal.becomeReady {n : Fin 8} (h : LevelsLegal s) : LevelsLegal (becomeReady n s) := by
  have hset : LevelsLegal (setReadiness n .ready s) := h.of_stand ⟨rfl, rfl⟩
  unfold Machine.becomeReady reportReady; split
  · exact hset
  · exact hset.handDynamic

/-! ### One sample (R37) -/

/-- Force and smoothed force are limited (R39, R40). -/
theorem LevelsLegal.forceStages {c : Int} (h : LevelsLegal s) : LevelsLegal (forceStages c s) := by
  have hforce : min (rawForce s.exu.deadZone s.exu.gain c) forceLimit ≤ 4095 := min_le_right ..
  have hstages : ∀ u, LevelsLegal u → LevelsLegal (u.withExu { u.exu with
      force := min (rawForce s.exu.deadZone s.exu.gain c) forceLimit
      smoothed := smoothStep s.exu.smoothing s.exu.smoothed (min (rawForce s.exu.deadZone s.exu.gain c) forceLimit) }) :=
    fun u hu => hu.withExu { hu.unit with force := hforce, smoothed := smoothStep_le h.unit.smoothed hforce }
  unfold Machine.forceStages; dsimp only; split
  · exact hstages _ (h.of_stand (raiseFlag_noticesOnly _ s).levelsStand)
  · exact hstages _ h

theorem LevelsLegal.accentCountdown (h : LevelsLegal s) : LevelsLegal (accentCountdown s) := h.withExu { h.unit with }

/-- The history takes the force for its oldest sample (R41). -/
theorem LevelsLegal.accentTest (h : LevelsLegal s) : LevelsLegal (accentTest s) := by
  refine h.withExu { h.unit with samples := ?_, history := fun f hf => ?_ }
  · simp [h.unit.samples]
  · rcases List.mem_append.mp hf with hf | hf
    · exact h.unit.history f (List.mem_of_mem_tail hf)
    · rw [List.mem_singleton.mp hf]; exact h.unit.force

/-- What the unit keeps for a section once it has taken its curve, boost and level (R43, R44). -/
theorem takeLevels_get (n : Fin 8) (s : State) :
    (takeLevels s).exu.sections[n] =
      { curve := s.scn.records[n].curve
        boost := s.scn.records[n].boost
        level := levelOf s.scn.records[n].curve s.exu.smoothed
        last := s.exu.sections[n].last } := by
  simp [takeLevels]

theorem LevelsLegal.takeLevels (h : LevelsLegal s) : LevelsLegal (takeLevels s) := by
  refine ⟨{ h.unit with sections := fun n => ?_ }, h.curves⟩
  rw [takeLevels_get]
  exact ⟨levelOf_le (h.curves n) _, (h.unit.sections n).last, h.curves n⟩

theorem LevelsLegal.expressionSample {c : Option Int} (h : LevelsLegal s) : LevelsLegal (expressionSample c s) := by
  unfold Machine.expressionSample; dsimp only
  cases c with
  | none => exact h.accentCountdown.takeLevels.testDynamics
  | some c => exact h.forceStages.accentCountdown.accentTest.takeLevels.testDynamics

theorem LevelsLegal.sensorTest {raw : Int} (h : LevelsLegal s) : LevelsLegal (sensorTest raw s) := by
  have hblu : ∀ b, LevelsLegal (s.withBlu b) := fun b => h.of_stand ⟨rfl, rfl⟩
  rcases sensorTest_cases raw s with he | ⟨_, _, _, he⟩ | ⟨_, _, _, he⟩ | he <;> rw [he]
  case inl => exact (hblu _).of_stand (offerGeneral_queueOnly _ _).levelsStand
  all_goals exact hblu _

theorem LevelsLegal.heardSample {raw : Int} (h : LevelsLegal s) : LevelsLegal (heardSample raw s) := by
  have hclipped : LevelsLegal (clipCentring raw s) := h.of_stand (clipCentring_noticesOnly raw s).levelsStand
  have htested : LevelsLegal ((clipCentring raw s).withBlu (s.blu.tested raw)) := hclipped.of_stand ⟨rfl, rfl⟩
  exact htested.expressionSample

theorem LevelsLegal.processSample {raw : Int} (h : LevelsLegal s) : LevelsLegal (processSample raw s) := by
  have hjudged : LevelsLegal (judgedSample raw s) := (h.of_stand (t := collect raw s) ⟨rfl, rfl⟩).sensorTest
  cases hs : (judgedSample raw s).blu.sensor with
  | fault => rw [processSample_of_fault hs]; exact hjudged.expressionSample
  | ok =>
    rw [processSample_of_ok hs]
    rcases ordinarySample_cases raw (judgedSample raw s) with he | ⟨d, he⟩ <;> rw [he]
    · exact hjudged.heardSample
    · exact hjudged.heardSample.of_stand (handReversal_playOnly d _).levelsStand

end

end Sys2Proof.Machine
end

section
/-! ## The ranges of force and levels: every command -/

namespace Sys2Proof.Machine

section
variable {s t : State}

/-! ### Sections, cut and resets -/

/-- The points of a curve that a request carries are bytes (R80, R181). -/
theorem sectionRecordOf_curve (r : List Byte) : CurveLegal (sectionRecordOf r).clamped.curve := by
  intro i
  have : (sectionRecordOf r).clamped.curve.get i = byteAt r (8 + i.val) := by
    simp [Vector.get, SectionRecord.clamped, sectionRecordOf]; rfl
  rw [this]
  exact Nat.le_of_lt_succ (BitVec.isLt _)

theorem LevelsLegal.setRecord {n : Fin 8} {r : SectionRecord} (h : LevelsLegal s) (hr : CurveLegal r.curve) :
    LevelsLegal (setRecord n r s) := by
  refine ⟨h.unit, fun m => ?_⟩
  have : (Machine.setRecord n r s).scn.records[m] = if n = m then r else s.scn.records[m] := by
    simp [Machine.setRecord, Vector.getElem_set, Fin.ext_iff]
  rw [this]; split
  · exact hr
  · exact h.curves m

theorem LevelsLegal.writeSection {p : List Byte} (h : LevelsLegal s) : LevelsLegal (writeSection p s).state := by
  unfold Machine.writeSection; dsimp only
  split
  · split
    · exact (h.setRecord (sectionRecordOf_curve _)).of_stand (stealToLimit_notesOnly _ _).levelsStand
    · exact h
  · exact h

theorem LevelsLegal.declareOff {n : Fin 8} (h : LevelsLegal s) : LevelsLegal (declareOff n s) := by
  have hset : LevelsLegal (setReadiness n .off s) := h.of_stand ⟨rfl, rfl⟩
  unfold Machine.declareOff; split
  · exact hset.of_stand (endSection_notesOnly n _).levelsStand
  · exact hset
  · exact hset

theorem LevelsLegal.declareReady {n : Fin 8} {settle : Nat} (h : LevelsLegal s) : LevelsLegal (declareReady n settle s) := by
  have hnot : LevelsLegal (if settle = 0 then Machine.becomeReady n s
      else setReadiness n (.settling (s.tick + BitVec.ofNat 32 (ticksOfMs settle))) s) := by
    split
    · exact h.becomeReady
    · exact h.of_stand ⟨rfl, rfl⟩
  unfold Machine.declareReady; split
  · exact h
  · exact hnot
  · exact hnot

theorem LevelsLegal.sectionReady {p : List Byte} (h : LevelsLegal s) : LevelsLegal (sectionReady p s).state := by
  unfold Machine.sectionReady; dsimp only
  repeat' split
  · exact h
  · exact h.declareReady
  · exact h.declareOff
  · exact h

/-- A cut closes the accent window, and leaves the ranges. -/
theorem LevelsLegal.cutIfNormal {c : CutCause} (h : LevelsLegal s) : LevelsLegal (cutIfNormal c s) := by
  unfold Machine.cutIfNormal; split
  · exact h
  · exact ⟨{ h.unit with }, h.curves⟩

theorem LevelsLegal.resume {p : List Byte} (h : LevelsLegal s) : LevelsLegal (resume p s).state := by
  have hresumed : LevelsLegal (Machine.reportAllReady (setCut false s)) :=
    LevelsLegal.reportAllReady (h.of_stand ⟨rfl, rfl⟩)
  unfold Machine.resume; dsimp only
  split
  · split
    · exact h
    · dsimp only; exact hresumed
  · exact h

/-- A soft reset takes the levels from the curves in use (R54, R55). -/
theorem LevelsLegal.softReset (h : LevelsLegal s) : LevelsLegal (softReset s) := by
  refine ⟨⟨Nat.zero_le _, Nat.zero_le _, rfl, ?_, fun n => ?_⟩, h.curves⟩
  · change ∀ f ∈ [0, 0, 0, 0, 0, 0, 0, 0], f ≤ 4095; decide
  · have : (Machine.softReset s).exu.sections[n] =
        { s.exu.sections[n] with level := s.exu.sections[n].curve[0], last := 0 } :=
      Vector.getElem_map ..
    rw [this]
    exact { h.unit.sections n with level := (h.unit.sections n).curve 0, last := Nat.zero_le _ }

/-- The hard reset values are in range, whatever the lines are (R54, R80). -/
theorem levelsLegal_released (cause : ResetCause) (rate : LineRate) (cut : Bool) (picks : Nat) (pending : List Instr) :
    LevelsLegal (State.released cause rate cut picks pending) :=
  (levelsInRange_iff.mp reset_levelsInRange).of_stand ⟨rfl, rfl⟩

/-! ### Clock, scanner and link -/

theorem LevelsLegal.beatEvent {p : ClockPhase} {c : Clock} (h : LevelsLegal s) : LevelsLegal (beatEvent p c s) :=
  h.of_stand (.trans (t := s.withTck (c.beat p)) ⟨rfl, rfl⟩ (beatEvent_playOnly p c s).levelsStand)

theorem LevelsLegal.acceptBeat (h : LevelsLegal s) : LevelsLegal (acceptBeat s) := by
  unfold Machine.acceptBeat; split
  · exact h
  · exact h.beatEvent

theorem LevelsLegal.meetDeadline (h : LevelsLegal s) : LevelsLegal (meetDeadline s) := by
  unfold Machine.meetDeadline; split
  · exact h.beatEvent
  · exact h.of_stand (.trans (t := s.withTck s.tck.stop) ⟨rfl, rfl⟩ (reportPhase_queueOnly _ _).levelsStand)

theorem takeWriteKeys_levelsStand (s : State) : LevelsStand s (takeWriteKeys s) := by
  obtain ⟨m, l, he⟩ := takeWriteKeys_frame s
  rw [he]; exact ⟨rfl, rfl⟩

theorem routeEvents_levelsStand (w : Option Nat) (es : List KeyEvent) (s : State) : LevelsStand s (routeEvents w es s) := by
  have hplay := fun es t => (routeEvents_playOnly es t).levelsStand
  cases w with
  | none => exact hplay es s
  | some n => exact ((hplay (es.take n) s).trans (takeWriteKeys_levelsStand _)).trans (hplay (es.drop n) _)

theorem completeScan_levelsStand (r : Readings) (w : Option Nat) (s : State) : LevelsStand s (completeScan r w s) := by
  have hksc : ∀ k, LevelsStand s (s.withKsc k) := fun _ => ⟨rfl, rfl⟩
  unfold completeScan; split
  · exact hksc _
  · exact (hksc _).trans (routeEvents_levelsStand ..)
  · exact (hksc _).trans (routeEvents_levelsStand ..)

theorem chooseFrame_linkOnly (s : State) : LinkOnly s (chooseFrame s) := by
  unfold chooseFrame
  repeat' split
  · rfl
  · rfl
  · exact .refl s
  · exact .refl s

/-! ### Commands -/

/-- A command whose effect leaves the unit and the records alone. -/
theorem LevelsStand.whileRunning {effect : State → State} (he : whileRunning effect s = .next t)
    (stand : LevelsStand s (effect s)) : LevelsStand s t :=
  whileRunning_keeps (.refl s) he stand

/-- A command that has its effect under a condition, and otherwise none. -/
theorem LevelsStand.whileRunning_ite {c : State → Prop} [DecidablePred c] {f : State → State}
    (he : Machine.whileRunning (fun s => if c s then f s else s) s = .next t) (stand : LevelsStand s (f s)) :
    LevelsStand s t := by
  refine .whileRunning he ?_
  split
  · exact stand
  · exact .refl s

theorem execScanStart_levelsStand (he : execScanStart s = .next t) : LevelsStand s t := .whileRunning_ite he ⟨rfl, rfl⟩

theorem execScanCompletion_levelsStand {r : ScanResult} (he : execScanCompletion r s = .next t) : LevelsStand s t :=
  .whileRunning_ite he (completeScan_levelsStand ..)

theorem execScanBoundary_levelsStand (he : execScanBoundary s = .next t) : LevelsStand s t := .whileRunning he ⟨rfl, rfl⟩

theorem execReinitialisationWindowEnd_levelsStand (he : execReinitialisationWindowEnd s = .next t) : LevelsStand s t :=
  .whileRunning_ite he ⟨rfl, rfl⟩

theorem execCalibrationEnd_levelsStand (he : execCalibrationEnd s = .next t) : LevelsStand s t := by
  refine .whileRunning he ?_
  split <;> exact ⟨rfl, rfl⟩

theorem execBarEdge_levelsStand (he : execBarEdge s = .next t) : LevelsStand s t := by
  refine .whileRunning he ?_
  split <;> exact ⟨rfl, rfl⟩

theorem execLastRealBeatAbsent_levelsStand (he : execLastRealBeatAbsent s = .next t) : LevelsStand s t :=
  .whileRunning_ite he ⟨rfl, rfl⟩

theorem execReleaseExpiry_levelsStand {v : Nat} (he : execReleaseExpiry v s = .next t) : LevelsStand s t := by
  refine .whileRunning he ?_
  repeat' split
  all_goals exact ⟨rfl, rfl⟩

theorem execByteArrival_levelsStand {b : Byte} {low : Bool} (he : execByteArrival b low s = .next t) : LevelsStand s t :=
  .whileRunning he ((completeFrame_linkOnly s).trans (takeByte_linkOnly b low _)).levelsStand

theorem execGap_levelsStand (he : execGap s = .next t) : LevelsStand s t :=
  .whileRunning_ite he (abandon_linkOnly ..).levelsStand

theorem execFrameComplete_levelsStand (he : execFrameComplete s = .next t) : LevelsStand s t :=
  .whileRunning he (completeFrame_linkOnly s).levelsStand

theorem execUnknownRequest_levelsStand (he : execUnknownRequest s = .next t) : LevelsStand s t := by
  rcases takeRequest_cases he with rfl | ⟨f, rest, _, _, rfl⟩ <;> exact ⟨rfl, rfl⟩

theorem execCalibrate_levelsStand (he : execCalibrate s = .next t) : LevelsStand s t := by
  rcases takeRequest_cases he with rfl | ⟨f, rest, _, _, rfl⟩
  · exact .refl t
  · split <;> exact ⟨rfl, rfl⟩

theorem execWriteKeys_levelsStand (he : execWriteKeys s = .next t) : LevelsStand s t :=
  .whileRunning he (takeWriteKeys_levelsStand s)

theorem execTransmit_levelsStand (he : execTransmit s = .next t) : LevelsStand s t :=
  .whileRunning_ite he (chooseFrame_linkOnly s).levelsStand

theorem execFrameSent_levelsStand (he : execFrameSent s = .next t) : LevelsStand s t := by
  refine .whileRunning he ?_
  split
  · exact .refl s
  · exact .trans (t := s.withLnk { s.lnk with transmitter := .idle }) ⟨rfl, rfl⟩ (chooseFrame_linkOnly _).levelsStand

theorem execCutLineSample_levelsStand {b : Bool} (he : execCutLineSample b s = .next t) : LevelsStand s t :=
  .whileRunning_ite he ⟨rfl, rfl⟩

theorem execClickLineSample_levelsStand {a b : Bool} (he : execClickLineSample a b s = .next t) : LevelsStand s t :=
  .whileRunning he ⟨rfl, rfl⟩

/-! The owners of requests that leave the unit and the records alone. -/

theorem setScan_levelsStand (p : List Byte) (s : State) : LevelsStand s (setScan p s).state := by
  unfold setScan; split <;> exact ⟨rfl, rfl⟩

theorem readKeys_levelsStand (p : List Byte) (s : State) : LevelsStand s (readKeys p s).state := by
  unfold readKeys; dsimp only; split <;> exact .refl s

theorem readSection_levelsStand (p : List Byte) (s : State) : LevelsStand s (readSection p s).state := by
  unfold readSection; split <;> exact .refl s

theorem selectRequest_levelsStand (p : List Byte) (s : State) : LevelsStand s (selectRequest p s).state := by
  rcases selectRequest_state p s with he | ⟨q, c, he⟩ <;> rw [he]
  · exact .refl s
  · exact (select_playOnly q c _ s).levelsStand

theorem writeLayer_levelsStand (p : List Byte) (s : State) : LevelsStand s (writeLayer p s).state := by
  unfold writeLayer; dsimp only
  repeat' split
  all_goals exact ⟨rfl, rfl⟩

theorem readLayer_levelsStand (p : List Byte) (s : State) : LevelsStand s (readLayer p s).state := by
  unfold readLayer; dsimp only
  repeat' split
  all_goals exact .refl s

theorem setPresetFlags_levelsStand (p : List Byte) (s : State) : LevelsStand s (setPresetFlags p s).state := by
  unfold setPresetFlags
  repeat' split
  all_goals exact ⟨rfl, rfl⟩

/-! The commands with a law at stake. -/

theorem LevelsLegal.serve {kind : Byte} {len : Nat} {owner : List Byte → State → Answer} (h : LevelsLegal s)
    (he : serve kind len owner s = .next t) (keeps : ∀ p s, LevelsLegal s → LevelsLegal (owner p s).state) :
    LevelsLegal t :=
  serve_keeps h he (fun _ _ h => h.of_stand ⟨rfl, rfl⟩) keeps

/-- A request whose owner leaves the unit and the records alone. -/
theorem LevelsLegal.serve_of_stand {kind : Byte} {len : Nat} {owner : List Byte → State → Answer} (h : LevelsLegal s)
    (he : Machine.serve kind len owner s = .next t) (stand : ∀ p s, LevelsStand s (owner p s).state) : LevelsLegal t :=
  h.serve he fun p s hs => hs.of_stand (stand p s)

theorem execSample_keeps_levels {p : Int} (h : LevelsLegal s) (he : execSample p s = .next t) : LevelsLegal t := by
  unfold execSample at he
  refine whileRunning_keeps h he ?_
  split
  · exact LevelsLegal.processSample (h.of_stand ⟨rfl, rfl⟩)
  · exact h

theorem execSettleExpiry_keeps_levels {n : Nat} (h : LevelsLegal s) (he : execSettleExpiry n s = .next t) :
    LevelsLegal t := by
  unfold execSettleExpiry at he
  refine whileRunning_keeps h he ?_
  repeat' split
  · exact h.becomeReady
  all_goals exact h

theorem execCutEdge_keeps_levels (h : LevelsLegal s) (he : execCutEdge s = .next t) : LevelsLegal t := by
  unfold execCutEdge at he
  refine whileRunning_keeps h he ?_
  split
  · exact LevelsLegal.cutIfNormal (h.of_stand ⟨rfl, rfl⟩)
  · exact h

theorem execBeatEdge_keeps_levels (h : LevelsLegal s) (he : execBeatEdge s = .next t) : LevelsLegal t := by
  unfold execBeatEdge at he
  refine whileRunning_keeps h he ?_
  split
  · exact LevelsLegal.acceptBeat (h.of_stand ⟨rfl, rfl⟩)
  · exact h

theorem execDeadline_keeps_levels (h : LevelsLegal s) (he : execDeadline s = .next t) : LevelsLegal t := by
  unfold execDeadline at he
  refine whileRunning_keeps h he ?_
  split
  · exact h.meetDeadline
  · exact h

theorem execReset_keeps_levels (h : LevelsLegal s) (he : execReset s = .next t) : LevelsLegal t := by
  rcases takeRequest_cases he with rfl | ⟨f, rest, _, _, rfl⟩
  · exact h
  · split
    · exact LevelsLegal.softReset (h.of_stand ⟨rfl, rfl⟩)
    · exact h.of_stand ⟨rfl, rfl⟩

theorem execResetRelease_keeps_levels {a b c : Bool} (h : LevelsLegal s) (he : execResetRelease a b c s = .next t) :
    LevelsLegal t := by
  unfold execResetRelease at he
  split at he
  · cases he; exact levelsLegal_released ..
  · cases he; exact h

end

/-! ### Every command and every step -/

/-- Every command keeps the laws of the levels. -/
theorem exec_keeps_levels (i : Instr) {s t : State} (h : LevelsLegal s) (he : exec i s = .next t) : LevelsLegal t := by
  cases i with
  | hardReset c => cases he; exact h.of_stand ⟨rfl, rfl⟩
  | resetRelease a b c => exact execResetRelease_keeps_levels h he
  | scanStart => exact h.of_stand (execScanStart_levelsStand he)
  | scanCompletion r => exact h.of_stand (execScanCompletion_levelsStand he)
  | scanBoundary => exact h.of_stand (execScanBoundary_levelsStand he)
  | reinitialisationWindowEnd => exact h.of_stand (execReinitialisationWindowEnd_levelsStand he)
  | sample p => exact execSample_keeps_levels h he
  | calibrationEnd => exact h.of_stand (execCalibrationEnd_levelsStand he)
  | beatEdge => exact execBeatEdge_keeps_levels h he
  | barEdge => exact h.of_stand (execBarEdge_levelsStand he)
  | lastRealBeatAbsent => exact h.of_stand (execLastRealBeatAbsent_levelsStand he)
  | deadline => exact execDeadline_keeps_levels h he
  | cutEdge => exact execCutEdge_keeps_levels h he
  | settleExpiry n => exact execSettleExpiry_keeps_levels h he
  | releaseExpiry v => exact h.of_stand (execReleaseExpiry_levelsStand he)
  | byteArrival b low => exact h.of_stand (execByteArrival_levelsStand he)
  | gap => exact h.of_stand (execGap_levelsStand he)
  | frameComplete => exact h.of_stand (execFrameComplete_levelsStand he)
  | unknownRequest => exact h.of_stand (execUnknownRequest_levelsStand he)
  | calibrate => exact h.of_stand (execCalibrate_levelsStand he)
  | writeKeys => exact h.of_stand (execWriteKeys_levelsStand he)
  | reset => exact execReset_keeps_levels h he
  | transmit => exact h.of_stand (execTransmit_levelsStand he)
  | frameSent => exact h.of_stand (execFrameSent_levelsStand he)
  | cutLineSample b => exact h.of_stand (execCutLineSample_levelsStand he)
  | clickLineSample a b => exact h.of_stand (execClickLineSample_levelsStand he)
  | setScan => exact h.serve_of_stand he setScan_levelsStand
  | setBellows => exact h.serve_of_stand he fun _ _ => ⟨rfl, rfl⟩
  | setExpression => exact h.serve he fun _ _ h => h.withExu { h.unit with }
  | setClock => exact h.serve_of_stand he fun _ _ => ⟨rfl, rfl⟩
  | readKeys => exact h.serve_of_stand he readKeys_levelsStand
  | writeSection => exact h.serve he fun _ _ h => h.writeSection
  | readSection => exact h.serve_of_stand he readSection_levelsStand
  | sectionReady => exact h.serve he fun _ _ h => h.sectionReady
  | cutRequest => exact h.serve he fun _ _ h => h.cutIfNormal
  | resume => exact h.serve he fun _ _ h => h.resume
  | selectPreset => exact h.serve_of_stand he selectRequest_levelsStand
  | cancelPending => exact h.serve_of_stand he fun _ _ => ⟨rfl, rfl⟩
  | writeLayer => exact h.serve_of_stand he writeLayer_levelsStand
  | readLayer => exact h.serve_of_stand he readLayer_levelsStand
  | setPresetFlags => exact h.serve_of_stand he setPresetFlags_levelsStand
  | status => exact h.serve_of_stand he fun _ s => .refl s
  | clearFlags => exact h.serve_of_stand he fun _ _ => ⟨rfl, rfl⟩

/-- Settles O58: the law is one of the Expression Unit and of the records (`LevelsLegal`); most commands leave both, and each
operation that writes one keeps it. -/
theorem everyStepKeepsTheLevels : Obligations.EveryStepKeepsTheLevels := by
  intro s t hs hstep
  rw [levelsInRange_iff] at hs ⊢
  rcases step_cases hstep with ⟨i, picks, pending, he⟩ | rfl
  · exact exec_keeps_levels i (hs.of_stand (t := { s with picks := picks, pending := pending }) ⟨rfl, rfl⟩) he
  · rcases passTick_cases s with ⟨_, _, he⟩ | ⟨_, he⟩ <;> rw [he]
    · exact hs.of_stand ⟨rfl, rfl⟩
    · exact hs

end Sys2Proof.Machine
end

section
/-! ## SetExpression (R52) -/

namespace Sys2Proof.Machine

/-- What SetExpression makes of a payload of ten bytes (R52). -/
theorem setExpression_eq (z1 z0 g1 g0 k a1 a0 t1 t0 r : Byte) (s : State) :
    let word := fun hi lo : Byte => hi.toNat * 256 + lo.toNat
    let z := min 255 (word z1 z0)
    let g := min 1023 (word g1 g0)
    let k' := min 6 k.toNat
    let a := min 4095 (word a1 a0)
    let w := max 1 (min 255 (word t1 t0))
    let r' := max 1 (min 32 r.toNat)
    setExpression [z1, z0, g1, g0, k, a1, a0, t1, t0, r] s =
      { state :=
          s.withExu
            { s.exu with
              deadZone := z, gain := g, smoothing := k', accentThreshold := a, accentWindow := w, reportStep := r' }
        status :=
          doneOrClamped
            (z != word z1 z0 || g != word g1 g0 || k' != k.toNat || a != word a1 a0 || w != word t1 t0 || r' != r.toNat)
        data :=
          [BitVec.ofNat 8 (z / 256), BitVec.ofNat 8 z, BitVec.ofNat 8 (g / 256), BitVec.ofNat 8 g, BitVec.ofNat 8 k',
            BitVec.ofNat 8 (a / 256), BitVec.ofNat 8 a, BitVec.ofNat 8 (w / 256), BitVec.ofNat 8 w,
            BitVec.ofNat 8 r'] } := by
  intro word z g k' a w r'
  generalize hp : [z1, z0, g1, g0, k, a1, a0, t1, t0, r] = p
  have hz : clampNat 0 255 (wordAt p 0) = z := by rw [clampNat_eq (by decide), Nat.zero_max, ← hp]; rfl
  have hg : clampNat 0 1023 (wordAt p 2) = g := by rw [clampNat_eq (by decide), Nat.zero_max, ← hp]; rfl
  have hk : clampNat 0 6 (byteAt p 4) = k' := by rw [clampNat_eq (by decide), Nat.zero_max, ← hp]; rfl
  have ha : clampNat 0 4095 (wordAt p 5) = a := by rw [clampNat_eq (by decide), Nat.zero_max, ← hp]; rfl
  have hw : clampNat 1 255 (wordAt p 7) = w := by rw [clampNat_eq (by decide), ← hp]; rfl
  have hr : clampNat 1 32 (byteAt p 9) = r' := by rw [clampNat_eq (by decide), ← hp]; rfl
  unfold setExpression
  rw [hz, hg, hk, ha, hw, hr, ← hp]
  rfl

/-- The status byte of an answer that is Clamped exactly when some field was not taken as carried. -/
theorem code_doneOrClamped {b : Bool} {carried : Prop} [Decidable carried] (h : b = true ↔ ¬ carried) :
    BitVec.ofNat 8 (statusCode (doneOrClamped b)) = if carried then 0x00 else 0x01 := by
  simp only [statusCode_doneOrClamped, h, ite_not]
  split <;> rfl

/-- Settles O23: the request goes to `setExpression`, whose clamps are `max` and `min`. -/
theorem setExpressionPutsClampedValuesInForce : Obligations.SetExpressionPutsClampedValuesInForce := by
  intro s tag z1 z0 g1 g0 k a1 a0 t1 t0 r rest ho word z g k' a w r'
  have harm : exec .setExpression s = serve 0x04 10 setExpression s := rfl
  have hclamped : (z != word z1 z0 || g != word g1 g0 || k' != k.toNat || a != word a1 a0 || w != word t1 t0 ||
        r' != r.toNat) = true ↔
      ¬ (z = word z1 z0 ∧ g = word g1 g0 ∧ k' = k.toNat ∧ a = word a1 a0 ∧ w = word t1 t0 ∧ r' = r.toNat) := by
    simp only [Bool.or_eq_true, bne_iff_ne, ne_eq]; tauto
  rw [harm, serve_of_offers (len := 10) ho rfl, setExpression_eq, ← code_doneOrClamped hclamped]
  rfl

end Sys2Proof.Machine
end

section
/-! ## An ordinary sample's force (R38 to R42, R48) -/

namespace Sys2Proof.Machine

/-! ### Flags and their reports (R185, R186) -/

/-- After an occurrence the flag is set. -/
theorem raiseFlag_isSet (f : StickyFlag) (s : State) : (raiseFlag f s).stu.isSet f = true := by
  rw [raiseFlag_sticky]; split
  · rwa [StatusUnit.isSet_tally]
  · exact StatusUnit.isSet_setFlag ..

/-- The flags stand on bits of their own (R181). -/
theorem StickyFlag.bit_ne {f g : StickyFlag} (h : f ≠ g) : (BitVec.ofNat 8 (2 ^ f.bit)).getLsbD g.bit = false := by
  revert h; cases f <;> cases g <;> decide

/-- An occurrence sets no other flag. -/
theorem raiseFlag_isSet_of_ne {f g : StickyFlag} (h : f ≠ g) (s : State) :
    (raiseFlag f s).stu.isSet g = s.stu.isSet g := by
  rw [raiseFlag_sticky]; split
  · exact StatusUnit.isSet_tally ..
  · rw [StatusUnit.isSet, StatusUnit.setFlag, BitVec.getLsbD_or, StickyFlag.bit_ne h, Bool.or_false]
    exact StatusUnit.isSet_tally f g _

/-- The first setting of a flag is reported when the queue has room (R186). -/
theorem raiseFlag_reports {f : StickyFlag} {s : State} (h : s.stu.isSet f = false)
    (hroom : s.soundingTotal + 1 ≤ s.freeEntries) :
    { report := .fault (.sticky f), due := s.tick, order := s.evq.made } ∈ (raiseFlag f s).evq.entries := by
  rcases raiseFlag_cases f s with ⟨hset, _⟩ | ⟨_, he⟩
  · rw [h] at hset; cases hset
  · rw [he]; exact offerGeneral_reports (s := s.withStu _) hroom

/-- Whether CLIP is set is the same. -/
def ClipStands (s t : State) : Prop := t.stu.isSet .clip = s.stu.isSet .clip

theorem QueueOnly.clipStands {s t : State} (h : QueueOnly s t) : ClipStands s t := by
  rw [QueueOnly] at h; rw [h]; rfl

/-- The work on voices sets CLIP never. -/
theorem clipStands_keptByNotes : KeptByNotes ClipStands where
  refl _ := rfl
  trans h k := Eq.trans k h
  noteOn _ _ _ _ _ := rfl
  noteOff _ _ _ _ := rfl
  dropAttack s := raiseFlag_isSet_of_ne (by decide) s
  withVal _ _ := rfl

theorem handReversal_clipStands (d : Side) (s : State) : ClipStands s (handReversal d s) :=
  clipStands_keptByNotes.trans (offerGeneral_queueOnly _ s).clipStands
    (clipStands_keptByNotes.takeReversal
      (fun _ _ _ s => clipStands_keptByNotes.trans (t := s.withReg _) rfl (offerGeneral_queueOnly _ _).clipStands) d _)

theorem handReversal_entriesWait (d : Side) (s : State) : EntriesWait s (handReversal d s) :=
  (EntriesWait.offerGeneral _ rfl).trans (takeReversal_entriesWait d _)

/-! ### Force, smoothed force, history and accent count -/

section
variable {s t : State}

theorem LevelsOnly.scn (h : LevelsOnly s t) : t.scn = s.scn := by rw [LevelsOnly] at h; rw [h]; rfl

theorem NoticesOnly.exu (h : NoticesOnly s t) : t.exu = s.exu := h.levelsStand.exu

theorem DynamicsOnly.stu (h : DynamicsOnly s t) : t.stu = s.stu := by rw [DynamicsOnly] at h; rw [h]; rfl

/-- At most the sections differ. -/
def Expression.SectionsOnly (x y : Expression) : Prop := y = { x with sections := y.sections }

theorem Expression.SectionsOnly.trans {x y z : Expression} (h : x.SectionsOnly y) (k : y.SectionsOnly z) :
    x.SectionsOnly z := by
  rw [SectionsOnly] at *; rw [k, h]

theorem DynamicsOnly.sectionsOnly (h : DynamicsOnly s t) : s.exu.SectionsOnly t.exu := by
  rw [DynamicsOnly] at h; rw [Expression.SectionsOnly, h]; rfl

theorem takeLevels_sectionsOnly (s : State) : s.exu.SectionsOnly (takeLevels s).exu := rfl

/-- The force of a centred sample (R38, R39). -/
def Expression.forceOf (c : Int) (x : Expression) : Nat := min 4095 ((c.natAbs - x.deadZone) * x.gain / 256)

/-- Whether a force exceeds the oldest of the history by the threshold, which is not 0 (R41). -/
abbrev Expression.accents (f : Nat) (x : Expression) : Prop :=
  0 < x.accentThreshold ∧ (x.accentThreshold : Int) ≤ (f : Int) - ((x.history.headD 0 : Nat) : Int)

/-- The unit after an ordinary sample's force, smoothing and accent test, before it takes its levels (R38 to R42, R48). -/
def Expression.heard (cut : Bool) (c : Int) (x : Expression) : Expression :=
  { x with
    force := x.forceOf c
    smoothed := smoothStep x.smoothing x.smoothed (x.forceOf c)
    history := x.history.tail ++ [x.forceOf c]
    accentCount := if x.accents (x.forceOf c) ∧ cut = false then x.accentWindow else x.accentCount - 1 }

theorem isAccent_iff (x : Expression) : isAccent x = true ↔ x.accents x.force := by simp [isAccent]

theorem forceStages_exu (c : Int) (s : State) :
    (forceStages c s).exu =
      { s.exu with
        force := s.exu.forceOf c, smoothed := smoothStep s.exu.smoothing s.exu.smoothed (s.exu.forceOf c) } := by
  have hforce : min (rawForce s.exu.deadZone s.exu.gain c) forceLimit = s.exu.forceOf c := Nat.min_comm ..
  unfold forceStages; dsimp only; rw [hforce]; split
  · rw [State.withExu_exu, (raiseFlag_noticesOnly .clip s).exu]
  · rfl

theorem heard_exu (c : Int) (s : State) :
    (accentTest (accentCountdown (forceStages c s))).exu = s.exu.heard s.scn.cut c := by
  have hexu := forceStages_exu c s
  have hscn := (forceStages_levelsOnly c s).scn
  generalize forceStages c s = u at hexu hscn
  have haccent : (isAccent (accentCountdown u).exu && !(accentCountdown u).scn.cut) = true ↔
      s.exu.accents (s.exu.forceOf c) ∧ s.scn.cut = false := by
    have hcut : (accentCountdown u).scn.cut = s.scn.cut := congrArg SectionControl.cut hscn
    rw [Bool.and_eq_true, isAccent_iff, Bool.not_eq_true', hcut, accentCountdown, State.withExu_exu, hexu]
  unfold accentTest
  simp only [haccent]
  rw [State.withExu_exu, accentCountdown, State.withExu_exu, hexu]
  rfl

theorem expressionSample_some (c : Int) (s : State) :
    expressionSample (some c) s = testDynamics (takeLevels (accentTest (accentCountdown (forceStages c s)))) := rfl

/-- Of the unit the levels and reports of a sample move the sections alone. -/
theorem expressionSample_exu (c : Int) (s : State) :
    (s.exu.heard s.scn.cut c).SectionsOnly (expressionSample (some c) s).exu := by
  rw [expressionSample_some, ← heard_exu]
  exact (takeLevels_sectionsOnly _).trans (testDynamics_dynamicsOnly _).sectionsOnly

end

/-! ### CLIP (R19, R39) -/

section
variable {s : State} {raw c : Int}

theorem clipCentring_isSet :
    (clipCentring raw s).stu.isSet .clip = true ↔
      s.stu.isSet .clip = true ∨ centred raw s.blu.offset ≠ raw - s.blu.offset := by
  unfold clipCentring exactDifference
  by_cases h : centred raw s.blu.offset = raw - s.blu.offset
  · rw [if_pos h]; simp [h]
  · rw [if_neg h]; simp [h, raiseFlag_isSet]

theorem forceStages_isSet :
    (forceStages c s).stu.isSet .clip = true ↔
      s.stu.isSet .clip = true ∨ 4095 < (c.natAbs - s.exu.deadZone) * s.exu.gain / 256 := by
  have hraw : forceLimit < rawForce s.exu.deadZone s.exu.gain c ↔
      4095 < (c.natAbs - s.exu.deadZone) * s.exu.gain / 256 := .rfl
  unfold forceStages; dsimp only
  rw [← hraw, State.withExu_stu]
  by_cases h : forceLimit < rawForce s.exu.deadZone s.exu.gain c
  · rw [if_pos h]; simp [h, raiseFlag_isSet]
  · rw [if_neg h]; simp [h]

theorem expressionSample_stu (c : Int) (s : State) : (expressionSample (some c) s).stu = (forceStages c s).stu :=
  by rw [expressionSample_some, (testDynamics_dynamicsOnly _).stu]; rfl

/-- The centred sample as the Expression Unit finds it. -/
theorem clipCentring_tested_exu : ((clipCentring raw s).withBlu (s.blu.tested raw)).exu = s.exu :=
  (clipCentring_noticesOnly raw s).exu

theorem heardSample_isSet :
    (heardSample raw s).stu.isSet .clip = true ↔
      s.stu.isSet .clip = true ∨ centred raw s.blu.offset ≠ raw - s.blu.offset ∨
        4095 < ((centred raw s.blu.offset).natAbs - s.exu.deadZone) * s.exu.gain / 256 := by
  rw [heardSample, expressionSample_stu, forceStages_isSet, clipCentring_tested_exu, State.withBlu_stu,
    clipCentring_isSet, or_assoc]

/-- A Fault report stands through the levels and reports of a sample. -/
theorem mem_expressionSample_of_fault {e : Entry} {name : FaultName} (hr : e.report = .fault name)
    (he : e ∈ (forceStages c s).evq.entries) : e ∈ (expressionSample (some c) s).evq.entries := by
  have hother : ∀ n, e.isDynamicOf n = false := fun _ => by unfold Entry.isDynamicOf; rw [hr]
  rw [expressionSample_some]
  exact (testDynamics_aside _ e hother).mpr he

theorem forceStages_entriesWait (c : Int) (s : State) : EntriesWait s (forceStages c s) := by
  unfold forceStages; dsimp only; split
  · exact (EntriesWait.raiseFlag .clip s).trans (.of_entries rfl)
  · exact .of_entries rfl

/-- The limited force sets CLIP and reports it. -/
theorem forceStages_reports (hclear : s.stu.isSet .clip = false) (hroom : s.soundingTotal + 1 ≤ s.freeEntries)
    (hlimit : 4095 < (c.natAbs - s.exu.deadZone) * s.exu.gain / 256) :
    { report := .fault (.sticky .clip), due := s.tick, order := s.evq.made } ∈ (forceStages c s).evq.entries := by
  have hraw : forceLimit < rawForce s.exu.deadZone s.exu.gain c := hlimit
  unfold forceStages; dsimp only
  rw [if_pos hraw]
  exact raiseFlag_reports hclear hroom

/-- CLIP's first setting at a sample is reported when the queue has room, whichever step sets it. -/
theorem heardSample_reports (hclear : s.stu.isSet .clip = false) (hroom : s.soundingTotal + 1 ≤ s.freeEntries)
    (hclips : centred raw s.blu.offset ≠ raw - s.blu.offset ∨
      4095 < ((centred raw s.blu.offset).natAbs - s.exu.deadZone) * s.exu.gain / 256) :
    { report := .fault (.sticky .clip), due := s.tick, order := s.evq.made } ∈ (heardSample raw s).evq.entries := by
  rw [heardSample]
  refine mem_expressionSample_of_fault rfl ?_
  by_cases hcentre : centred raw s.blu.offset = raw - s.blu.offset
  · have hsame : clipCentring raw s = s := if_pos hcentre
    rw [hsame]
    exact forceStages_reports (s := s.withBlu _) hclear hroom (hclips.resolve_left (not_not_intro hcentre))
  · have hraised : clipCentring raw s = raiseFlag .clip s := if_neg hcentre
    exact forceStages_entriesWait _ ((clipCentring raw s).withBlu _) (hraised ▸ raiseFlag_reports hclear hroom)

end

/-! ### The obligation -/

/-- A sample ends with what `heardSample` leaves, or hands a reversal on from there, which moves neither the unit nor CLIP and takes
no entry from the queue (R23). -/
theorem ordinarySample_keeps_heard (raw : Int) (s : State) :
    (ordinarySample raw s).exu = (heardSample raw s).exu ∧ ClipStands (heardSample raw s) (ordinarySample raw s) ∧
      EntriesWait (heardSample raw s) (ordinarySample raw s) := by
  rcases ordinarySample_cases raw s with h | ⟨d, h⟩ <;> rw [h]
  · exact ⟨rfl, rfl, .of_entries rfl⟩
  · exact ⟨(handReversal_playOnly d _).exu, handReversal_clipStands d _, handReversal_entriesWait d _⟩

theorem heardSample_exu (raw : Int) (s : State) :
    (s.exu.heard s.scn.cut (centred raw s.blu.offset)).SectionsOnly (heardSample raw s).exu := by
  have hscn : ((clipCentring raw s).withBlu (s.blu.tested raw)).scn = s.scn := (clipCentring_noticesOnly raw s).levels.scn
  rw [heardSample, ← clipCentring_tested_exu (raw := raw) (s := s), ← hscn]
  exact expressionSample_exu ..

/-- Settles O21: the unit is the one that `Expression.heard` describes, and CLIP is raised by the centring or by the limit. -/
theorem ordinarySampleMovesTheForce : Obligations.OrdinarySampleMovesTheForce := by
  intro s p ho c f clips
  obtain ⟨hexu, hclip, hwait⟩ := ordinarySample_keeps_heard (rawOf p) (s.withBlu (s.blu.railed (rawOf p)))
  have hheard := heardSample_exu (rawOf p) (s.withBlu (s.blu.railed (rawOf p)))
  have hset := heardSample_isSet (raw := rawOf p) (s := s.withBlu (s.blu.railed (rawOf p)))
  have hreports := heardSample_reports (raw := rawOf p) (s := s.withBlu (s.blu.railed (rawOf p)))
  have hcentred : centred (rawOf p) (s.withBlu (s.blu.railed (rawOf p))).blu.offset = c := centred_eq ..
  rw [hcentred] at hheard hset hreports
  rw [← hexu] at hheard
  refine ⟨_, exec_sample_of_ordinary ho, ?_⟩
  generalize ordinarySample (rawOf p) (s.withBlu (s.blu.railed (rawOf p))) = t at *
  rw [Expression.SectionsOnly] at hheard
  have hsmoothed := smoothStep_eq s.exu.smoothing s.exu.smoothed f
  rw [← Int.fdiv_eq_ediv_of_nonneg _ (Int.natCast_nonneg _)] at hsmoothed
  refine ⟨by rw [hheard]; rfl, by rw [hheard]; exact hsmoothed, by rw [hheard]; rfl, ?_, by rw [hheard]; rfl,
    by rw [hheard]; rfl, by rw [hheard]; rfl, by rw [hheard]; rfl, by rw [hheard]; rfl, by rw [hheard]; rfl,
    (Bool.eq_iff_iff.mp hclip).trans hset, fun hclear hclips hroom => hwait (hreports hclear hroom hclips)⟩
  rw [hheard]
  exact if_congr and_assoc rfl rfl

end Sys2Proof.Machine
end

section
/-! ## Dynamic reports: one section's and those of a walk (R45 to R48, R151) -/

namespace Sys2Proof.Machine

/-! ### Dynamic entries -/

theorem Entry.isDynamicOf_iff {e : Entry} {n : Fin 8} : e.isDynamicOf n = true ↔ ∃ l, e.report = .dynamic n l := by
  unfold Entry.isDynamicOf; cases e.report <;> simp

theorem Entry.isDynamicOf_unique {e : Entry} {n m : Fin 8} (h : e.isDynamicOf n = true) (k : e.isDynamicOf m = true) :
    n = m := by
  obtain ⟨_, hn⟩ := isDynamicOf_iff.mp h
  obtain ⟨_, hm⟩ := isDynamicOf_iff.mp k
  rw [hn] at hm; cases hm; rfl

/-- An entry whose level is replaced stays an entry of its section. -/
theorem Entry.isDynamicOf_replaced {e : Entry} {n : Fin 8} (h : e.isDynamicOf n = true) (l : Nat) (m : Fin 8) :
    Entry.isDynamicOf m { e with report := .dynamic n l } = e.isDynamicOf m := by
  obtain ⟨l', hn⟩ := isDynamicOf_iff.mp h
  simp only [isDynamicOf, hn]

theorem holdsDynamic_iff {n : Fin 8} {s : State} :
    s.holdsDynamic n = true ↔ ∃ e ∈ s.evq.entries, e.isDynamicOf n = true := List.any_eq_true

/-- The entries after a level is replaced: those of other reports, and those of the section with the new level. -/
theorem mem_replaceDynamic {e : Entry} {n : Fin 8} {l : Nat} {s : State} :
    e ∈ (replaceDynamic n l s).evq.entries ↔
      (e ∈ s.evq.entries ∧ e.isDynamicOf n = false) ∨
        ∃ x ∈ s.evq.entries, x.isDynamicOf n = true ∧ { x with report := .dynamic n l } = e := by
  simp only [replaceDynamic, State.withEvq_evq, List.mem_map]
  constructor
  · rintro ⟨x, hx, rfl⟩
    by_cases hd : x.isDynamicOf n = true
    · rw [if_pos hd]; exact .inr ⟨x, hx, hd, rfl⟩
    · rw [if_neg hd]; exact .inl ⟨hx, Bool.not_eq_true _ ▸ hd⟩
  · rintro (⟨he, hd⟩ | ⟨x, hx, hd, rfl⟩)
    · exact ⟨e, he, if_neg (by rw [hd]; decide)⟩
    · exact ⟨x, hx, if_pos hd⟩

/-- The Dynamic entries that wait are the same. -/
def DynamicEntriesStand (s t : State) : Prop :=
  ∀ e : Entry, ∀ n, e.isDynamicOf n = true → (e ∈ t.evq.entries ↔ e ∈ s.evq.entries)

/-- What the unit keeps for a section and the section's Dynamic entries are the same. -/
structure DynamicStands (n : Fin 8) (s t : State) : Prop where
  kept : t.exu.sections[n] = s.exu.sections[n]
  entries : ∀ e : Entry, e.isDynamicOf n = true → (e ∈ t.evq.entries ↔ e ∈ s.evq.entries)

section
variable {n m : Fin 8} {s t u : State}

theorem DynamicStands.refl (n : Fin 8) (s : State) : DynamicStands n s s := ⟨rfl, fun _ _ => .rfl⟩

theorem DynamicStands.trans (h : DynamicStands n s t) (k : DynamicStands n t u) : DynamicStands n s u :=
  ⟨k.kept.trans h.kept, fun e he => (k.entries e he).trans (h.entries e he)⟩

theorem holdsDynamic_congr (h : ∀ e : Entry, e.isDynamicOf n = true → (e ∈ t.evq.entries ↔ e ∈ s.evq.entries)) :
    t.holdsDynamic n = s.holdsDynamic n := by
  rw [Bool.eq_iff_iff, holdsDynamic_iff, holdsDynamic_iff]
  exact exists_congr fun e => and_congr_left fun he => h e he

/-! ### One section's report (R46) -/

/-- What the unit holds once a report is made. -/
theorem handDynamic_exu (h : s.holdsDynamic n = true ∨ s.soundingTotal + 1 ≤ s.freeEntries) :
    (handDynamic n s).exu =
      { s.exu with
        sections := s.exu.sections.set n { s.exu.sections[n] with last := s.exu.sections[n].level } } := by
  cases hold : s.holdsDynamic n with
  | true => rw [handDynamic_of_waiting hold]; rfl
  | false => rw [handDynamic_of_room hold (h.resolve_left (by rw [hold]; decide))]; rfl

/-- A report that is made waits in the queue with the section's level. -/
theorem handDynamic_reports (h : s.holdsDynamic n = true ∨ s.soundingTotal + 1 ≤ s.freeEntries) :
    ∃ e ∈ (handDynamic n s).evq.entries, e.report = .dynamic n s.exu.sections[n].level := by
  cases hold : s.holdsDynamic n with
  | true =>
    obtain ⟨x, hx, hd⟩ := holdsDynamic_iff.mp hold
    rw [handDynamic_of_waiting hold]
    exact ⟨_, mem_replaceDynamic.mpr (.inr ⟨x, hx, hd, rfl⟩), rfl⟩
  | false =>
    rw [handDynamic_of_room hold (h.resolve_left (by rw [hold]; decide))]
    exact ⟨_, mem_pushSection.mpr (.inl rfl), rfl⟩

theorem handDynamic_get (h : s.holdsDynamic n = true ∨ s.soundingTotal + 1 ≤ s.freeEntries) :
    (handDynamic n s).exu.sections[n] = { s.exu.sections[n] with last := s.exu.sections[n].level } := by
  rw [handDynamic_exu h]; simp

/-- A section's report leaves every other section's level and entries. -/
theorem handDynamic_stands (h : m ≠ n) (s : State) : DynamicStands n s (handDynamic m s) := by
  have hmark : ∀ u, QueueOnly s u → (markReported m u).exu.sections[n] = s.exu.sections[n] := fun u hu => by
    rw [markReported_get, if_neg h, hu.levelsStand.exu]
  cases hold : s.holdsDynamic m with
  | true =>
    rw [handDynamic_of_waiting hold]
    refine ⟨hmark _ (replaceDynamic_queueOnly ..), fun e he => mem_replaceDynamic.trans ⟨?_, fun hmem => .inl ⟨hmem, ?_⟩⟩⟩
    · rintro (⟨hmem, _⟩ | ⟨x, _, hx, rfl⟩)
      · exact hmem
      · rw [Entry.isDynamicOf_replaced hx] at he
        exact absurd (Entry.isDynamicOf_unique hx he) h
    · rw [← Bool.not_eq_true]; exact fun hm => h (Entry.isDynamicOf_unique hm he)
  | false =>
    rcases Nat.lt_or_ge s.freeEntries (s.soundingTotal + 1) with hfull | hroom
    · rw [handDynamic_of_full hold hfull]; exact .refl n s
    · rw [handDynamic_of_room hold hroom]
      refine ⟨hmark _ (pushSection_queueOnly ..), fun e he => mem_pushSection.trans (or_iff_right ?_)⟩
      rintro rfl
      exact h (Entry.isDynamicOf_unique (Entry.isDynamicOf_iff.mpr ⟨_, rfl⟩) he)

theorem handDynamic_fill_ge (n : Fin 8) (s : State) : s.fill ≤ (handDynamic n s).fill := by
  unfold handDynamic; split
  · exact (replaceDynamic_fill n _ s).ge
  · split
    · exact (Nat.le_succ _).trans (pushSection_fill n (.dynamic n _) s).ge
    · exact le_rfl

theorem DynamicsOnly.scn (h : DynamicsOnly s t) : t.scn = s.scn := by rw [DynamicsOnly] at h; rw [h]; rfl

theorem DynamicsOnly.soundingTotal (h : DynamicsOnly s t) : t.soundingTotal = s.soundingTotal := by
  rw [DynamicsOnly] at h; rw [h]; rfl

end

/-! ### A walk over the sections -/

/-- A section visited: it is reported if it meets a condition. -/
def reportIf (c : State → Fin 8 → Prop) [∀ s n, Decidable (c s n)] (s : State) (n : Fin 8) : State :=
  if c s n then handDynamic n s else s

/-- The sections of a list visited in their order. -/
def reportWalk (c : State → Fin 8 → Prop) [∀ s n, Decidable (c s n)] (l : List (Fin 8)) (s : State) : State :=
  l.foldl (reportIf c) s

/-- The condition of the report test (R45). -/
abbrev earnsReport (s : State) (n : Fin 8) : Prop :=
  s.scn.readiness[n] = .ready ∧ s.scn.cut = false ∧
    reportEarned s.exu.reportStep s.exu.sections[n].level s.exu.sections[n].last = true

theorem testDynamics_eq_walk (s : State) : testDynamics s = reportWalk earnsReport (List.finRange 8) s := rfl

theorem reportAllReady_eq_walk (s : State) :
    reportAllReady s = reportWalk (fun s n => s.scn.readiness[n] = .ready) (List.finRange 8) s := rfl

/-- Each section is visited once, with at most seven before it. -/
theorem exists_finRange_split (n : Fin 8) :
    ∃ before after, List.finRange 8 = before ++ n :: after ∧ n ∉ before ∧ n ∉ after ∧ before.length ≤ 7 := by
  obtain ⟨before, after, h⟩ := List.append_of_mem (List.mem_finRange n)
  have hnodup := h ▸ List.nodup_finRange 8
  have hlen : (before ++ n :: after).length = 8 := h ▸ List.length_finRange
  rw [List.length_append, List.length_cons] at hlen
  obtain ⟨_, hafter, hdisjoint⟩ := List.nodup_append'.mp hnodup
  exact ⟨before, after, h, fun hb => hdisjoint hb (List.mem_cons_self ..), (List.nodup_cons.mp hafter).1, by omega⟩

section
variable {c : State → Fin 8 → Prop} [∀ s n, Decidable (c s n)] {n : Fin 8} {s : State}

theorem reportIf_cases (c : State → Fin 8 → Prop) [∀ s n, Decidable (c s n)] (s : State) (n : Fin 8) :
    reportIf c s n = handDynamic n s ∨ reportIf c s n = s := by
  unfold reportIf; split
  · exact .inl rfl
  · exact .inr rfl

theorem reportWalk_dynamicsOnly (c : State → Fin 8 → Prop) [∀ s n, Decidable (c s n)] (l : List (Fin 8)) (s : State) :
    DynamicsOnly s (reportWalk c l s) :=
  foldl_keeps DynamicsOnly.refl (fun _ _ _ => .trans)
    (fun s n => by
      rcases reportIf_cases c s n with h | h <;> rw [h]
      · exact handDynamic_dynamicsOnly n s
      · exact .refl s) l s

theorem reportWalk_aside (c : State → Fin 8 → Prop) [∀ s n, Decidable (c s n)] (l : List (Fin 8)) (s : State) :
    DynamicsAside s (reportWalk c l s) :=
  foldl_keeps DynamicsAside.refl (fun _ _ _ => .trans)
    (fun s n => by
      rcases reportIf_cases c s n with h | h <;> rw [h]
      · exact handDynamic_aside n s
      · exact .refl s) l s

theorem reportWalk_fill (c : State → Fin 8 → Prop) [∀ s n, Decidable (c s n)] (l : List (Fin 8)) (s : State) :
    s.fill ≤ (reportWalk c l s).fill ∧ (reportWalk c l s).fill ≤ s.fill + l.length := by
  constructor
  · refine foldl_keeps (R := fun s t => s.fill ≤ t.fill) (fun _ => le_rfl) (fun _ _ _ => le_trans) (fun s n => ?_) l s
    rcases reportIf_cases c s n with h | h <;> rw [h]
    exact handDynamic_fill_ge n s
  · refine foldl_fill_le (fun s n => ?_) l s
    rcases reportIf_cases c s n with h | h <;> rw [h]
    · exact handDynamic_fill_le n s
    · exact Nat.le_succ _

/-- A walk that leaves a section out leaves its level and entries. -/
theorem reportWalk_stands {l : List (Fin 8)} (h : n ∉ l) (s : State) : DynamicStands n s (reportWalk c l s) := by
  induction l generalizing s with
  | nil => exact .refl n s
  | cons m l ih =>
    obtain ⟨hm, hl⟩ := not_or.mp (mt List.mem_cons.mpr h)
    refine DynamicStands.trans ?_ (ih hl _)
    rcases reportIf_cases c s m with h | h <;> rw [h]
    · exact handDynamic_stands (Ne.symm hm) s
    · exact .refl n s

/-- The walk over all sections as one section sees it: it finds its own level and entries as they were and at most seven entries
more, and what its visit leaves for it stays. -/
theorem exists_visit (c : State → Fin 8 → Prop) [∀ s n, Decidable (c s n)] (n : Fin 8) (s : State) :
    ∃ u, DynamicsOnly s u ∧ DynamicStands n s u ∧ s.fill ≤ u.fill ∧ u.fill ≤ s.fill + 7 ∧
      DynamicStands n (reportIf c u n) (reportWalk c (List.finRange 8) s) := by
  obtain ⟨before, after, hl, hbefore, hafter, hlen⟩ := exists_finRange_split n
  obtain ⟨hge, hle⟩ := reportWalk_fill c before s
  refine ⟨reportWalk c before s, reportWalk_dynamicsOnly .., reportWalk_stands hbefore s, hge, by omega, ?_⟩
  have hwalk : reportWalk c (before ++ n :: after) s = reportWalk c after (reportIf c (reportWalk c before s) n) :=
    List.foldl_append
  rw [hl, hwalk]
  exact reportWalk_stands hafter _

/-- A condition that reads the section's own level and what no report changes. -/
abbrev OwnCondition (c : State → Fin 8 → Prop) : Prop :=
  ∀ s u n, DynamicsOnly s u → u.exu.sections[n] = s.exu.sections[n] → (c u n ↔ c s n)

/-- A section that does not meet the condition is not reported. -/
theorem reportWalk_of_not (hc : OwnCondition c) (h : ¬ c s n) : DynamicStands n s (reportWalk c (List.finRange 8) s) := by
  obtain ⟨u, honly, hstands, _, _, hvisit⟩ := exists_visit c n s
  rw [reportIf, if_neg (mt (hc s u n honly hstands.kept).mp h)] at hvisit
  exact hstands.trans hvisit

/-- A section that meets the condition is reported where a Dynamic entry of it waits or the queue has room for eight. -/
theorem reportWalk_of_room (hc : OwnCondition c) (h : c s n)
    (hroom : s.holdsDynamic n = true ∨ s.soundingTotal + 8 ≤ 128 - s.fill) :
    (reportWalk c (List.finRange 8) s).exu.sections[n] =
        { s.exu.sections[n] with last := s.exu.sections[n].level } ∧
      ∃ e ∈ (reportWalk c (List.finRange 8) s).evq.entries, e.report = .dynamic n s.exu.sections[n].level := by
  obtain ⟨u, honly, hstands, _, hfill, hvisit⟩ := exists_visit c n s
  rw [reportIf, if_pos ((hc s u n honly hstands.kept).mpr h)] at hvisit
  have hadmitted : u.holdsDynamic n = true ∨ u.soundingTotal + 1 ≤ u.freeEntries := by
    rw [holdsDynamic_congr hstands.entries, honly.soundingTotal, State.freeEntries, queueSize]
    exact hroom.imp_right fun _ => by omega
  obtain ⟨e, he, hr⟩ := handDynamic_reports hadmitted
  rw [hstands.kept] at hr
  refine ⟨?_, e, (hvisit.entries e (Entry.isDynamicOf_iff.mpr ⟨_, hr⟩)).mpr he, hr⟩
  rw [hvisit.kept, handDynamic_get hadmitted, hstands.kept]

/-- With no room at all a section with no Dynamic entry waiting is not reported. -/
theorem reportWalk_of_full (hc : OwnCondition c) (hold : s.holdsDynamic n = false)
    (hfull : 128 - s.fill < s.soundingTotal + 1) : DynamicStands n s (reportWalk c (List.finRange 8) s) := by
  by_cases h : c s n
  · obtain ⟨u, honly, hstands, hfill, _, hvisit⟩ := exists_visit c n s
    have hrefused : u.freeEntries < u.soundingTotal + 1 := by
      rw [honly.soundingTotal, State.freeEntries, queueSize]; omega
    have hold' : u.holdsDynamic n = false := by rw [holdsDynamic_congr hstands.entries, hold]
    rw [reportIf, if_pos ((hc s u n honly hstands.kept).mpr h), handDynamic_of_full hold' hrefused] at hvisit
    exact hstands.trans hvisit
  · exact reportWalk_of_not hc h

/-- Everything a walk can do for a section: leave it, or make its level the last reported one. -/
theorem reportWalk_get (c : State → Fin 8 → Prop) [∀ s n, Decidable (c s n)] (n : Fin 8) (s : State) :
    (reportWalk c (List.finRange 8) s).exu.sections[n] = s.exu.sections[n] ∨
      (reportWalk c (List.finRange 8) s).exu.sections[n] =
        { s.exu.sections[n] with last := s.exu.sections[n].level } := by
  obtain ⟨u, _, hstands, _, _, hvisit⟩ := exists_visit c n s
  rw [hvisit.kept, ← hstands.kept]
  rcases reportIf_cases c u n with he | he <;> rw [he]
  · rcases handDynamic_cases n u with h | ⟨v, hv, h⟩ <;> rw [h]
    · exact .inl rfl
    · rw [markReported_get, if_pos rfl, hv.levelsStand.exu]; exact .inr rfl
  · exact .inl rfl

end

/-! ### The order of the reports of a walk (R48, R147) -/

/-- While a walk that began at a creation order has sections left: the Dynamic entries made since then stand in ascending section
number, and below every section that is left. -/
structure ReportsAscend (start : Nat) (left : List (Fin 8)) (s : State) : Prop where
  made : ∀ e ∈ s.evq.entries, e.order < s.evq.made
  below : ∀ e ∈ s.evq.entries, ∀ n, e.isDynamicOf n = true → start ≤ e.order → ∀ m ∈ left, n < m
  ascend : ∀ e ∈ s.evq.entries, ∀ e' ∈ s.evq.entries, ∀ n m, e.isDynamicOf n = true → e'.isDynamicOf m = true →
    start ≤ e.order → e.order < e'.order → n < m

section
variable {start : Nat} {left : List (Fin 8)} {n : Fin 8} {s : State}

theorem ReportsAscend.tail (h : ReportsAscend start (n :: left) s) : ReportsAscend start left s :=
  { h with below := fun e he m hd ho k hk => h.below e he m hd ho k (List.mem_cons_of_mem n hk) }

/-- A level replaced moves no entry in creation order. -/
theorem exists_of_mem_replaceDynamic {e : Entry} {l : Nat} (h : e ∈ (replaceDynamic n l s).evq.entries) :
    ∃ x ∈ s.evq.entries, x.order = e.order ∧ ∀ m, x.isDynamicOf m = e.isDynamicOf m := by
  rcases mem_replaceDynamic.mp h with ⟨he, _⟩ | ⟨x, hx, hd, rfl⟩
  · exact ⟨e, he, rfl, fun _ => rfl⟩
  · exact ⟨x, hx, rfl, fun m => (Entry.isDynamicOf_replaced hd l m).symm⟩

theorem ReportsAscend.replaceDynamic {l : Nat} (h : ReportsAscend start left s) :
    ReportsAscend start left (replaceDynamic n l s) where
  made e he := by
    obtain ⟨x, hx, ho, _⟩ := exists_of_mem_replaceDynamic he
    exact ho ▸ h.made x hx
  below e he m hd hs := by
    obtain ⟨x, hx, ho, hk⟩ := exists_of_mem_replaceDynamic he
    exact h.below x hx m (hk m ▸ hd) (ho ▸ hs)
  ascend e he e' he' m m' hd hd' hs hlt := by
    obtain ⟨x, hx, ho, hk⟩ := exists_of_mem_replaceDynamic he
    obtain ⟨x', hx', ho', hk'⟩ := exists_of_mem_replaceDynamic he'
    exact h.ascend x hx x' hx' m m' (hk m ▸ hd) (hk' m' ▸ hd') (ho ▸ hs) (ho ▸ ho' ▸ hlt)

/-- A new entry is the last made, of the section just visited. -/
theorem ReportsAscend.pushDynamic {l : Nat} (h : ReportsAscend start (n :: left) s) (hn : ∀ m ∈ left, n < m) :
    ReportsAscend start left (pushSection n (.dynamic n l) s) where
  made e he := by
    rcases mem_pushSection.mp he with rfl | he
    · exact Nat.lt_succ_self _
    · exact Nat.lt_succ_of_lt (h.made e he)
  below e he m hd hs := by
    rcases mem_pushSection.mp he with rfl | he
    · rw [← Entry.isDynamicOf_unique (Entry.isDynamicOf_iff.mpr ⟨_, rfl⟩) hd]; exact hn
    · exact h.tail.below e he m hd hs
  ascend e he e' he' m m' hd hd' hs hlt := by
    rcases mem_pushSection.mp he' with rfl | he'
    · rcases mem_pushSection.mp he with rfl | he
      · exact absurd hlt (lt_irrefl _)
      · rw [← Entry.isDynamicOf_unique (Entry.isDynamicOf_iff.mpr ⟨_, rfl⟩) hd']
        exact h.below e he m hd hs n (List.mem_cons_self ..)
    · rcases mem_pushSection.mp he with rfl | he
      · exact absurd (hlt.trans (h.made e' he')) (lt_irrefl _)
      · exact h.ascend e he e' he' m m' hd hd' hs hlt

theorem ReportsAscend.handDynamic (h : ReportsAscend start (n :: left) s) (hn : ∀ m ∈ left, n < m) :
    ReportsAscend start left (handDynamic n s) := by
  cases hold : s.holdsDynamic n with
  | true =>
    have := (h.tail.replaceDynamic (n := n) (l := s.exu.sections[n].level))
    rw [handDynamic_of_waiting hold]; exact { this with }
  | false =>
    rcases Nat.lt_or_ge s.freeEntries (s.soundingTotal + 1) with hfull | hroom
    · rw [handDynamic_of_full hold hfull]; exact h.tail
    · have := h.pushDynamic (l := s.exu.sections[n].level) hn
      rw [handDynamic_of_room hold hroom]; exact { this with }

theorem ReportsAscend.reportWalk {c : State → Fin 8 → Prop} [∀ s n, Decidable (c s n)] (h : ReportsAscend start left s)
    (hleft : left.Pairwise (· < ·)) : ReportsAscend start [] (reportWalk c left s) := by
  induction left generalizing s with
  | nil => exact h
  | cons n left ih =>
    obtain ⟨hn, hleft⟩ := List.pairwise_cons.mp hleft
    refine ih ?_ hleft
    rcases reportIf_cases c s n with he | he <;> rw [he]
    · exact h.handDynamic hn
    · exact h.tail

/-- At the start of a walk no entry has been made since. -/
theorem reportsAscend_start (h : ∀ e ∈ s.evq.entries, e.order < s.evq.made) : ReportsAscend s.evq.made left s where
  made := h
  below e he _ _ hs := absurd hs (not_le.mpr (h e he))
  ascend e he _ _ _ _ _ _ hs := absurd hs (not_le.mpr (h e he))

end

end Sys2Proof.Machine
end

section
/-! ## Settle expiry and Resume (R46 to R48, R88, R89, R94) -/

namespace Sys2Proof.Machine

/-! ### A section that becomes READY -/

section
variable {n : Fin 8} {s : State}

theorem exec_settleExpiry {d : Tick} (hr : s.inReset = none) (hd : s.scn.readiness[n] = .settling d) :
    exec (.settleExpiry n.val) s = .next (if s.reached d then becomeReady n s else s) := by
  have harm : exec (.settleExpiry n.val) s = execSettleExpiry n.val s := rfl
  have hd' : s.scn.readiness[n.val] = .settling d := hd
  rw [harm, execSettleExpiry, whileRunning_of_running hr, dif_pos n.isLt]
  simp only [hd', hasCome_iff]

/-- At most the readiness of the section, the levels and the queue differ (R89). -/
theorem becomeReady_frame (n : Fin 8) (s : State) :
    becomeReady n s =
      { s with
        scn := { s.scn with readiness := s.scn.readiness.set n .ready }
        exu := (becomeReady n s).exu
        evq := (becomeReady n s).evq } := by
  unfold becomeReady reportReady; split
  · rfl
  · have h := handDynamic_dynamicsOnly n (setReadiness n .ready s)
    rw [DynamicsOnly] at h; rw [h]; rfl

theorem becomeReady_of_cut (h : s.scn.cut = true) : becomeReady n s = setReadiness n .ready s := if_pos h

theorem becomeReady_of_normal (h : s.scn.cut = false) : becomeReady n s = handDynamic n (setReadiness n .ready s) :=
  if_neg (by show ¬ s.scn.cut = true; rw [h]; decide)

/-- The queue once a section's report has become an entry (R148, R149). -/
theorem pushSection_evq (n : Fin 8) (r : Report) (s : State) :
    (pushSection n r s).evq =
      { entries :=
          s.evq.entries.takeWhile (fun e => e.isAllOff || decide (0 ≤ (s.dueTick n - e.due).toInt)) ++
            { report := r, due := s.dueTick n, order := s.evq.made } ::
              s.evq.entries.dropWhile (fun e => e.isAllOff || decide (0 ≤ (s.dueTick n - e.due).toInt))
        lastDue := s.evq.lastDue.set n (s.dueTick n)
        ahead := s.evq.ahead.set n (decide (s.dueTick n ≠ s.tick))
        made := s.evq.made + 1 } := by
  have hahead : (s.dueTick n != s.tick) = decide (s.dueTick n ≠ s.tick) := by
    rw [Bool.eq_iff_iff, bne_iff_ne, decide_eq_true_iff]
  rw [← hahead]
  exact congrArg (fun es => ({ s.evq with
    entries := es, lastDue := s.evq.lastDue.set n (s.dueTick n), ahead := s.evq.ahead.set n (s.dueTick n != s.tick)
    made := s.evq.made + 1 } : EventQueue)) (insertEntry_eq ..)

end

/-- Settles O34: `becomeReady` hands the level on in NORMAL, where `handDynamic` replaces, places or drops it. -/
theorem settleExpiryMakesReady : Obligations.SettleExpiryMakesReady := by
  intro s n d hr hd
  rw [exec_settleExpiry hr hd]
  refine ⟨fun h => by rw [if_neg h], fun h => ?_⟩
  intro level earliest due ahead
  rw [if_pos h]
  refine ⟨_, rfl, becomeReady_frame n s, fun hcut => ?_, fun hcut hold => ?_, fun hcut hold hroom => ?_,
    fun hcut hold hfull => ?_, fun hcut hmade => ?_⟩
  · rw [becomeReady_of_cut hcut]; exact ⟨rfl, rfl⟩
  · rw [becomeReady_of_normal hcut, handDynamic_of_waiting (s := setReadiness n .ready s) hold]; rfl
  · rw [becomeReady_of_normal hcut, handDynamic_of_room (s := setReadiness n .ready s) hold hroom]
    exact pushSection_evq n (.dynamic n level) (setReadiness n .ready s)
  · rw [becomeReady_of_normal hcut, handDynamic_of_full (s := setReadiness n .ready s) hold hfull]; exact ⟨rfl, rfl⟩
  · rw [becomeReady_of_normal hcut]
    exact ⟨handDynamic_exu (s := setReadiness n .ready s) hmade, handDynamic_reports (s := setReadiness n .ready s) hmade⟩

/-! ### Resume -/

section
variable {s : State} {n : Fin 8}

/-- The condition of a Resume's reports reads what no report changes. -/
theorem ready_ownCondition : OwnCondition fun s n => s.scn.readiness[n] = .ready := by
  intro s u n h _
  show u.scn.readiness[n] = .ready ↔ _
  rw [h.scn]

theorem reportAllReady_dynamicsOnly (s : State) : DynamicsOnly s (reportAllReady s) := by
  rw [reportAllReady_eq_walk]; exact reportWalk_dynamicsOnly ..

theorem reportAllReady_aside (s : State) : DynamicsAside s (reportAllReady s) := by
  rw [reportAllReady_eq_walk]; exact reportWalk_aside _ _ s

theorem reportAllReady_of_not (h : s.scn.readiness[n] ≠ .ready) : DynamicStands n s (reportAllReady s) := by
  rw [reportAllReady_eq_walk]; exact reportWalk_of_not ready_ownCondition h

theorem reportAllReady_of_room (h : s.scn.readiness[n] = .ready)
    (hroom : s.holdsDynamic n = true ∨ s.soundingTotal + 8 ≤ 128 - s.fill) :
    (reportAllReady s).exu.sections[n] = { s.exu.sections[n] with last := s.exu.sections[n].level } ∧
      ∃ e ∈ (reportAllReady s).evq.entries, e.report = .dynamic n s.exu.sections[n].level := by
  rw [reportAllReady_eq_walk]; exact reportWalk_of_room ready_ownCondition h hroom

theorem reportAllReady_of_full (hold : s.holdsDynamic n = false) (hfull : 128 - s.fill < s.soundingTotal + 1) :
    DynamicStands n s (reportAllReady s) := by
  rw [reportAllReady_eq_walk]; exact reportWalk_of_full ready_ownCondition hold hfull

/-- The reports are made in ascending section number (R48). -/
theorem reportAllReady_ascend (h : ∀ e ∈ s.evq.entries, e.order < s.evq.made) :
    ReportsAscend s.evq.made [] (reportAllReady s) := by
  rw [reportAllReady_eq_walk]; exact (reportsAscend_start h).reportWalk (List.pairwise_lt_finRange 8)

end

section
variable {s : State} {p : List Byte}

theorem resume_of_normal (h : s.scn.cut = false) : resume p s = { state := s, status := .done, data := [0] } := by
  simp [resume, h]; rfl

/-- While the line is high a Resume is refused. -/
theorem resume_of_high (h : s.scn.cut = true) (hline : s.scn.lastCut = true) :
    resume p s = { state := s, status := .refusedCutHeld, data := [1] } := by
  simp [resume, h, hline]; rfl

theorem resume_of_low (h : s.scn.cut = true) (hline : s.scn.lastCut = false) :
    resume p s = { state := reportAllReady (setCut false s), status := .done, data := [0] } := by
  have hnormal : (reportAllReady (setCut false s)).scn.cut = false := by
    rw [(reportAllReady_dynamicsOnly _).scn]; rfl
  simp [resume, h, hline, hnormal]; rfl

end

/-- The part once the handler has taken the oldest frame (R173). -/
def State.taken (rest : List Frame) (s : State) : State := s.withLnk { s.lnk with inbound := rest }

section
variable {s : State} {tag : Byte} {rest : List Frame}

/-- A Resume that is offered goes to Section Control (R94, R174). -/
theorem exec_resume (ho : s.offers 0x0C tag [] rest) :
    exec .resume s = .next (reply { kind := 0x0C, tag := tag, payload := [] } (resume [] (s.taken rest))) :=
  serve_of_offers ho rfl

/-- With the line low a Resume makes the part NORMAL and reports its READY sections. -/
theorem exec_resume_of_low (ho : s.offers 0x0C tag [] rest) (hcut : s.scn.cut = true) (hlow : s.scn.lastCut = false) :
    ∃ u, reportAllReady (setCut false (s.taken rest)) = u ∧
      exec .resume s =
        .next { s with
          scn := { s.scn with cut := false }
          exu := { s.exu with sections := u.exu.sections }
          evq := u.evq
          lnk := s.lnk.answered rest 0x0C tag 0x00 [0] } := by
  have hframe := reportAllReady_dynamicsOnly (setCut false (s.taken rest))
  rw [exec_resume ho, resume_of_low (s := s.taken rest) hcut hlow]
  generalize reportAllReady (setCut false (s.taken rest)) = u at hframe
  refine ⟨u, rfl, ?_⟩
  rw [DynamicsOnly] at hframe
  rw [hframe]
  rfl

end

/-- Settles O36: a Resume with the line low walks the READY sections. -/
theorem resumeReturnsToNormal : Obligations.ResumeReturnsToNormal := by
  intro s tag rest ho
  refine ⟨fun hcut hhigh => ?_, fun hcut hlow => ?_, fun hcut => ?_⟩
  · rw [exec_resume ho, resume_of_high (s := s.taken rest) hcut hhigh]; rfl
  · obtain ⟨u, hu, hexec⟩ := exec_resume_of_low ho hcut hlow
    have hnot := fun n => reportAllReady_of_not (s := setCut false (s.taken rest)) (n := n)
    have hroom := fun n => reportAllReady_of_room (s := setCut false (s.taken rest)) (n := n)
    have hfull := fun n => reportAllReady_of_full (s := setCut false (s.taken rest)) (n := n)
    have haside := reportAllReady_aside (setCut false (s.taken rest))
    have hascend := reportAllReady_ascend (s := setCut false (s.taken rest))
    rw [hu] at hnot hroom hfull haside hascend
    exact ⟨_, hexec, rfl,
      fun n => ⟨fun h => ⟨(hnot n h).kept, fun e he hd => ((hnot n h).entries e hd).mp he⟩, hroom n,
        fun _ hold h => ⟨(hfull n hold h).kept, fun e he hd => ((hfull n hold h).entries e hd).mp he⟩⟩,
      fun e he hd => (haside e hd).mp he, fun hmade n m e he e' he' => (hascend hmade).ascend e he e' he' n m⟩
  · rw [exec_resume ho, resume_of_normal (s := s.taken rest) hcut]; rfl

end Sys2Proof.Machine
end

section
/-! ## The levels of a sample and their reports (R43 to R46) -/

namespace Sys2Proof.Machine

/-! ### What a sample leaves for the levels

Before it takes the levels a sample makes at most one report, a Fault; after its report tests it may hand a reversal on. -/

/-- What levels and report tests read stands: records, readiness and cut state, the voices, each section's level, the report step, and
the Dynamic entries; the queue loses no entry. -/
structure LevelsAwait (s t : State) : Prop where
  scn : t.scn = s.scn
  val : t.val = s.val
  sections : t.exu.sections = s.exu.sections
  step : t.exu.reportStep = s.exu.reportStep
  entries : DynamicEntriesStand s t
  fill : s.fill ≤ t.fill

section
variable {s t u : State}

theorem DynamicEntriesStand.of_entries (h : t.evq.entries = s.evq.entries) : DynamicEntriesStand s t := fun _ _ _ => by
  rw [h]

theorem DynamicEntriesStand.trans (h : DynamicEntriesStand s t) (k : DynamicEntriesStand t u) : DynamicEntriesStand s u :=
  fun e n he => (k e n he).trans (h e n he)

/-- A new entry that is no Dynamic entry leaves those that are. -/
theorem DynamicEntriesStand.of_new {x : Entry} (h : ∀ e, e ∈ t.evq.entries ↔ e = x ∨ e ∈ s.evq.entries)
    (hx : ∀ n, x.isDynamicOf n = false) : DynamicEntriesStand s t := fun e n he => by
  rw [h]
  refine or_iff_right ?_
  rintro rfl
  rw [hx n] at he; cases he

theorem LevelsAwait.refl (s : State) : LevelsAwait s s := ⟨rfl, rfl, rfl, rfl, .of_entries rfl, le_rfl⟩

theorem LevelsAwait.trans (h : LevelsAwait s t) (k : LevelsAwait t u) : LevelsAwait s u :=
  ⟨k.scn.trans h.scn, k.val.trans h.val, k.sections.trans h.sections, k.step.trans h.step, h.entries.trans k.entries,
    h.fill.trans k.fill⟩

theorem LevelsAwait.withBlu (s : State) (b : Bellows) : LevelsAwait s (s.withBlu b) :=
  ⟨rfl, rfl, rfl, rfl, .of_entries rfl, le_rfl⟩

theorem LevelsAwait.withStu (s : State) (x : StatusUnit) : LevelsAwait s (s.withStu x) :=
  ⟨rfl, rfl, rfl, rfl, .of_entries rfl, le_rfl⟩

theorem offerGeneral_dynamicEntriesStand {r : Report} (hr : r.section? = none) (s : State) :
    DynamicEntriesStand s (offerGeneral r s) := by
  rcases offerGeneral_cases r s with ⟨_, h⟩ | ⟨_, h⟩ <;> rw [h]
  · refine .of_new (fun _ => mem_pushGeneral) fun n => ?_
    cases r <;> first | rfl | cases hr
  · exact .of_entries rfl

theorem LevelsAwait.offerFault (f : FaultName) (s : State) : LevelsAwait s (offerGeneral (.fault f) s) := by
  have hqueue := offerGeneral_queueOnly (.fault f) s
  have hfill : s.fill ≤ (offerGeneral (.fault f) s).fill := by
    rcases offerGeneral_cases (.fault f) s with ⟨_, h⟩ | ⟨_, h⟩ <;> rw [h]
    exact (Nat.le_succ _).trans (pushGeneral_fill _ s).ge
  have hentries := offerGeneral_dynamicEntriesStand (r := .fault f) rfl s
  generalize offerGeneral (.fault f) s = t at *
  rw [QueueOnly] at hqueue
  exact ⟨by rw [hqueue]; rfl, by rw [hqueue]; rfl, by rw [hqueue]; rfl, by rw [hqueue]; rfl, hentries, hfill⟩

theorem LevelsAwait.raiseFlag (f : StickyFlag) (s : State) : LevelsAwait s (raiseFlag f s) := by
  rcases raiseFlag_cases f s with ⟨_, h⟩ | ⟨_, h⟩ <;> rw [h]
  · exact .withStu s _
  · exact (LevelsAwait.withStu s _).trans (.offerFault _ _)

theorem LevelsAwait.clipCentring (raw : Int) (s : State) : LevelsAwait s (clipCentring raw s) := by
  unfold Machine.clipCentring; split
  · exact .refl s
  · exact .raiseFlag .clip s

theorem LevelsAwait.forceStages (c : Int) (s : State) : LevelsAwait s (forceStages c s) := by
  have hforce : ∀ (u : State) (f e : Nat), LevelsAwait u (u.withExu { u.exu with force := f, smoothed := e }) := fun u f e =>
    ⟨rfl, rfl, rfl, rfl, .of_entries rfl, le_rfl⟩
  unfold Machine.forceStages; dsimp only; split
  · exact (LevelsAwait.raiseFlag .clip s).trans (hforce _ _ _)
  · exact hforce _ _ _

theorem LevelsAwait.accentCountdown (s : State) : LevelsAwait s (accentCountdown s) :=
  ⟨rfl, rfl, rfl, rfl, .of_entries rfl, le_rfl⟩

theorem LevelsAwait.accentTest (s : State) : LevelsAwait s (accentTest s) := ⟨rfl, rfl, rfl, rfl, .of_entries rfl, le_rfl⟩

end

/-! ### Held and ordinary samples alike -/

/-- The work on voices makes no Dynamic report. -/
theorem dynamicEntriesStand_keptByNotes : KeptByNotes DynamicEntriesStand where
  refl _ := .of_entries rfl
  trans := .trans
  noteOn _ _ _ _ _ := .of_new (fun _ => mem_pushSection) fun _ => rfl
  noteOff _ _ _ _ := .of_new (fun _ => mem_pushSection) fun _ => rfl
  dropAttack s := (LevelsAwait.raiseFlag .dropAttack s).entries
  withVal _ _ := .of_entries rfl

theorem handReversal_dynamicEntriesStand (d : Side) (s : State) : DynamicEntriesStand s (handReversal d s) :=
  (offerGeneral_dynamicEntriesStand rfl s).trans
    (dynamicEntriesStand_keptByNotes.takeReversal
      (fun _ _ _ s => .trans (t := s.withReg _) (.of_entries rfl) (offerGeneral_dynamicEntriesStand rfl _)) d _)

/-- Everything the sensor test can leave beside the unit: a Fault report handed on in SENSOR_FAULT, or nothing. -/
theorem judgedSample_cases (raw : Int) (s : State) :
    (∃ b, judgedSample raw s = s.withBlu b) ∨
      ∃ b, judgedSample raw s = offerGeneral (.fault .sensor) (s.withBlu b) ∧ (judgedSample raw s).blu.sensor = .fault := by
  rcases sensorTest_cases raw (collect raw s) with h | ⟨_, _, _, h⟩ | ⟨_, _, _, h⟩ | h
  · exact .inr ⟨_, h, by rw [judgedSample, h, enterFault_blu]⟩
  all_goals exact .inl ⟨_, h⟩

theorem expressionSample_none (s : State) : expressionSample none s = testDynamics (takeLevels (accentCountdown s)) := rfl

/-- A held sample takes its levels with at most a Fault for SENSOR made. -/
theorem judgedSample_levelsAwait (raw : Int) (s : State) :
    LevelsAwait s (judgedSample raw s) ∧ (judgedSample raw s).fill ≤ s.fill + 1 := by
  rcases judgedSample_cases raw s with ⟨b, h⟩ | ⟨b, h, _⟩ <;> rw [h]
  · exact ⟨.withBlu s b, Nat.le_succ _⟩
  · exact ⟨(LevelsAwait.withBlu s b).trans (.offerFault _ _), offerGeneral_fill_le _ (s.withBlu b)⟩

/-- An ordinary sample takes its levels with at most a Fault for CLIP made. -/
theorem heardSample_levels (raw : Int) (s : State) :
    ∃ y, heardSample raw s = testDynamics (takeLevels y) ∧ LevelsAwait s y ∧ y.fill ≤ s.fill + 1 := by
  have hcentred : LevelsAwait s ((clipCentring raw s).withBlu (s.blu.tested raw)) :=
    (LevelsAwait.clipCentring raw s).trans (.withBlu _ _)
  have hclip : ((clipCentring raw s).withBlu (s.blu.tested raw)).clipFill ≤ s.clipFill := clipCentring_clipFill_le raw s
  rw [heardSample, expressionSample_some]
  generalize (clipCentring raw s).withBlu (s.blu.tested raw) = v at hcentred hclip
  have hforce := forceStages_clipFill_le (centred raw s.blu.offset) v
  have hforced := hcentred.trans (.forceStages (centred raw s.blu.offset) v)
  generalize forceStages (centred raw s.blu.offset) v = w at hforce hforced
  refine ⟨_, rfl, (hforced.trans (.accentCountdown w)).trans (.accentTest _), ?_⟩
  have hfill : w.fill ≤ w.clipFill := Nat.le_add_right ..
  have hbound : s.clipFill ≤ s.fill + 1 := by unfold State.clipFill; split <;> omega
  exact hfill.trans (by omega)

/-- A sample takes its levels in a state with at most one entry more; what its report tests leave for the levels stands to its
end. -/
theorem processSample_levels (raw : Int) (s : State) :
    ∃ y, LevelsAwait s y ∧ y.fill ≤ s.fill + 1 ∧
      (processSample raw s).exu = (testDynamics (takeLevels y)).exu ∧
      DynamicEntriesStand (testDynamics (takeLevels y)) (processSample raw s) := by
  cases hs : (judgedSample raw s).blu.sensor with
  | fault =>
    obtain ⟨hawait, hfill⟩ := judgedSample_levelsAwait raw s
    rw [processSample_of_fault hs, expressionSample_none]
    exact ⟨_, hawait.trans (.accentCountdown _), hfill, rfl, .of_entries rfl⟩
  | ok =>
    obtain ⟨b, hb⟩ : ∃ b, judgedSample raw s = s.withBlu b :=
      (judgedSample_cases raw s).resolve_right fun ⟨_, _, hf⟩ => by rw [hs] at hf; cases hf
    rw [processSample_of_ok hs, hb]
    obtain ⟨y, hy, hawait, hfill⟩ := heardSample_levels raw (s.withBlu b)
    refine ⟨y, (LevelsAwait.withBlu s b).trans hawait, hfill, ?_⟩
    rw [← hy]
    rcases ordinarySample_cases raw (s.withBlu b) with h | ⟨d, h⟩ <;> rw [h]
    · exact ⟨rfl, .of_entries rfl⟩
    · exact ⟨(handReversal_playOnly d _).exu, handReversal_dynamicEntriesStand d _⟩

/-! ### The obligation -/

/-- The condition of the report test reads what no report changes, and the section's own level. -/
theorem earnsReport_ownCondition : OwnCondition earnsReport := by
  intro s u n h hkept
  have hstep : u.exu.reportStep = s.exu.reportStep := by rw [h.sectionsOnly]
  rw [earnsReport, h.scn, hkept, hstep]

/-- When a level has earned a report, as R45 reads. -/
theorem reportEarned_iff {step level last : Nat} :
    reportEarned step level last = true ↔
      last + step ≤ level ∨ level + step ≤ last ∨ (level = 0 ∧ last ≠ 0) ∨ (level = 255 ∧ last ≠ 255) := by
  simp [reportEarned, or_assoc]

section
variable {n : Fin 8} {s : State}

/-- The level of a section after its report test is the one before it. -/
theorem testDynamics_get (n : Fin 8) (s : State) :
    (testDynamics s).exu.sections[n] = s.exu.sections[n] ∨
      (testDynamics s).exu.sections[n] = { s.exu.sections[n] with last := s.exu.sections[n].level } := by
  rw [testDynamics_eq_walk]; exact reportWalk_get earnsReport n s

theorem testDynamics_of_not (h : ¬ earnsReport s n) : DynamicStands n s (testDynamics s) := by
  rw [testDynamics_eq_walk]; exact reportWalk_of_not earnsReport_ownCondition h

theorem testDynamics_of_room (h : earnsReport s n)
    (hroom : s.holdsDynamic n = true ∨ s.soundingTotal + 8 ≤ 128 - s.fill) :
    (testDynamics s).exu.sections[n] = { s.exu.sections[n] with last := s.exu.sections[n].level } ∧
      ∃ e ∈ (testDynamics s).evq.entries, e.report = .dynamic n s.exu.sections[n].level := by
  rw [testDynamics_eq_walk]; exact reportWalk_of_room earnsReport_ownCondition h hroom

theorem testDynamics_of_full (hold : s.holdsDynamic n = false) (hfull : 128 - s.fill < s.soundingTotal + 1) :
    DynamicStands n s (testDynamics s) := by
  rw [testDynamics_eq_walk]; exact reportWalk_of_full earnsReport_ownCondition hold hfull

end

/-- What the unit keeps for a section at its report test: the last reported level is still the one before the sample. -/
def State.heardLevel (e : Nat) (n : Fin 8) (s : State) : Dynamics where
  curve := s.scn.records[n].curve
  boost := s.scn.records[n].boost
  level := levelOf s.scn.records[n].curve e
  last := s.exu.sections[n].last

/-- The part at the report tests of a sample, with the smoothed force it took its levels from: each section's level is taken, and at
most one entry, no Dynamic entry, has been made since the sample began. -/
structure TestsAwait (e : Nat) (s w : State) : Prop where
  scn : w.scn = s.scn
  step : w.exu.reportStep = s.exu.reportStep
  sections : ∀ n : Fin 8, w.exu.sections[n] = s.heardLevel e n
  sounding : w.soundingTotal = s.soundingTotal
  entries : DynamicEntriesStand s w
  grown : s.fill ≤ w.fill
  room : w.fill ≤ s.fill + 1

theorem processSample_tests (raw : Int) (s : State) :
    ∃ w, TestsAwait (processSample raw s).exu.smoothed s w ∧ (processSample raw s).exu = (testDynamics w).exu ∧
      DynamicEntriesStand (testDynamics w) (processSample raw s) := by
  obtain ⟨y, hawait, hfill, hexu, hentries⟩ := processSample_levels raw s
  have hsmoothed : (processSample raw s).exu.smoothed = y.exu.smoothed := by
    rw [hexu, (testDynamics_dynamicsOnly (takeLevels y)).sectionsOnly]; rfl
  refine ⟨takeLevels y, ⟨hawait.scn, hawait.step, fun n => ?_, ?_, hawait.entries, hawait.fill, hfill⟩, hexu, hentries⟩
  · rw [takeLevels_get, hawait.scn, hawait.sections, hsmoothed]; rfl
  · show y.soundingTotal = s.soundingTotal
    rw [State.soundingTotal, hawait.val]; rfl

section
variable {e : Nat} {n : Fin 8} {s w : State}

/-- The next conversion, which is under way by then, is nothing to the levels. -/
theorem TestsAwait.of_conversion (h : TestsAwait e s.conversion w) : TestsAwait e s w :=
  ⟨h.scn, h.step, h.sections, h.sounding, h.entries, h.grown, h.room⟩

theorem TestsAwait.holdsDynamic (h : TestsAwait e s w) : w.holdsDynamic n = s.holdsDynamic n :=
  holdsDynamic_congr fun x => h.entries x n

theorem TestsAwait.level (h : TestsAwait e s w) : w.exu.sections[n].level = levelOf s.scn.records[n].curve e := by
  rw [h.sections]; rfl

/-- Of what a section took, its report test can move the last reported level alone, to the present one. -/
theorem TestsAwait.kept (h : TestsAwait e s w) (n : Fin 8) :
    (testDynamics w).exu.sections[n] = s.heardLevel e n ∨
      (testDynamics w).exu.sections[n] = { s.heardLevel e n with last := levelOf s.scn.records[n].curve e } := by
  have := testDynamics_get n w
  rwa [h.sections] at this

/-- The report test in the part before the sample (R45). -/
theorem TestsAwait.earns_iff (h : TestsAwait e s w) :
    earnsReport w n ↔ s.scn.readiness[n] = .ready ∧ s.scn.cut = false ∧
      reportEarned s.exu.reportStep (levelOf s.scn.records[n].curve e) s.exu.sections[n].last = true := by
  rw [earnsReport, h.scn, h.step, h.sections]; rfl

/-- A section that is not reported keeps its last reported level and its Dynamic entries. -/
theorem TestsAwait.unreported (h : TestsAwait e s w) (hs : DynamicStands n w (testDynamics w)) :
    (testDynamics w).exu.sections[n].last = s.exu.sections[n].last ∧
      ∀ x ∈ (testDynamics w).evq.entries, x.isDynamicOf n = true → x ∈ s.evq.entries := by
  refine ⟨?_, fun x hx hd => (h.entries x n hd).mp ((hs.entries x hd).mp hx)⟩
  rw [hs.kept, h.sections]; rfl

/-- A section is reported where its level has earned it and the queue takes the report beside a Fault and seven others. -/
theorem TestsAwait.reported (h : TestsAwait e s w) (hearns : earnsReport w n)
    (hroom : s.holdsDynamic n = true ∨ s.soundingTotal + 9 ≤ 128 - s.fill) :
    (testDynamics w).exu.sections[n].last = levelOf s.scn.records[n].curve e ∧
      ∃ x ∈ (testDynamics w).evq.entries, x.report = .dynamic n (levelOf s.scn.records[n].curve e) := by
  have hgrown := h.room
  have hroom' : w.holdsDynamic n = true ∨ w.soundingTotal + 8 ≤ 128 - w.fill := by
    rw [h.holdsDynamic, h.sounding]
    exact hroom.imp_right fun _ => by omega
  obtain ⟨hget, hreport⟩ := testDynamics_of_room hearns hroom'
  rw [h.level] at hget hreport
  exact ⟨by rw [hget], hreport⟩

theorem TestsAwait.refused (h : TestsAwait e s w) (hold : s.holdsDynamic n = false)
    (hfull : 128 - s.fill < s.soundingTotal + 1) : DynamicStands n w (testDynamics w) := by
  have hgrown := h.grown
  have hsounding := h.sounding
  exact testDynamics_of_full (h.holdsDynamic.trans hold) (by omega)

end

/-- Settles O22: the sample's report tests are a walk over the levels just taken. -/
theorem everySampleTakesTheLevels : Obligations.EverySampleTakesTheLevels := by
  intro s p hs
  obtain ⟨w, hw, hexu, hentries⟩ := processSample_tests (rawOf p) s.conversion
  refine ⟨_, exec_sample hs, fun n => ?_⟩
  generalize processSample (rawOf p) s.conversion = t at *
  replace hw := hw.of_conversion
  have hkept := hw.kept n
  rw [← hexu] at hkept
  have hlevel : t.exu.sections[n].level = levelOf s.scn.records[n].curve t.exu.smoothed := by
    rcases hkept with h | h <;> rw [h] <;> rfl
  have hearns : earnsReport w n ↔ s.scn.readiness[n] = .ready ∧ s.scn.cut = false ∧
      reportEarned s.exu.reportStep t.exu.sections[n].level s.exu.sections[n].last = true := by
    rw [hlevel]; exact hw.earns_iff
  have hsame : t.exu.sections[n].last = (testDynamics w).exu.sections[n].last := by rw [hexu]
  have hunreported : DynamicStands n w (testDynamics w) → t.exu.sections[n].last = s.exu.sections[n].last ∧
      ∀ e ∈ t.evq.entries, e.isDynamicOf n = true → e ∈ s.evq.entries := fun h => by
    obtain ⟨hlast, hmem⟩ := hw.unreported h
    exact ⟨hsame.trans hlast, fun e he hd => hmem e ((hentries e n hd).mp he) hd⟩
  refine ⟨?_, ?_, ?_, ⟨fun h => ?_, fun hcut hready => ⟨fun h => ?_, fun h hroom => ?_, fun _ hold hfull => ?_⟩⟩, ?_⟩
  · rcases hkept with h | h <;> rw [h] <;> rfl
  · rcases hkept with h | h <;> rw [h] <;> rfl
  · rw [hlevel]; exact levelOf_eq ..
  · refine hunreported (testDynamics_of_not fun he => ?_)
    obtain ⟨hready, hcut, _⟩ := hearns.mp he
    exact h.elim (fun hc => absurd (hc.symm.trans hcut) (by decide)) fun hr => hr hready
  · refine hunreported (testDynamics_of_not fun he => h ?_)
    obtain ⟨_, _, hearned⟩ := hearns.mp he
    exact reportEarned_iff.mp hearned
  · obtain ⟨hlast, e, he, hr⟩ := hw.reported (hearns.mpr ⟨hready, hcut, reportEarned_iff.mpr h⟩) hroom
    rw [← hlevel] at hlast hr
    exact ⟨hsame.trans hlast, e, (hentries e n (Entry.isDynamicOf_iff.mpr ⟨_, hr⟩)).mpr he, hr⟩
  · exact hunreported (hw.refused hold hfull)
  · rcases hkept with h | h <;> rw [h]
    · exact .inl rfl
    · exact .inr rfl

end Sys2Proof.Machine
end

section
/-! ## Placing a pitch (R125 to R131) -/

namespace Sys2Proof.Machine

/-! ### Searches of the voice table -/

theorem Voice.isFree_iff {x : Voice} : x.isFree = true ↔ x.state = .free := by simp [Voice.isFree]

theorem Voice.isFree_eq_false {x : Voice} : x.isFree = false ↔ x.state ≠ .free := by
  rw [ne_eq, ← Voice.isFree_iff, Bool.not_eq_true]

theorem Voice.isSounding_eq_false {x : Voice} : x.isSounding = false ↔ x.state ≠ .sounding := by
  rw [ne_eq, ← Voice.isSounding_iff, Bool.not_eq_true]

theorem Voice.isReleasing_iff {x : Voice} : x.isReleasing = true ↔ x.state ≠ .sounding ∧ x.state ≠ .free := by
  rw [Voice.isReleasing, Bool.and_eq_true, Bool.not_eq_true', Bool.not_eq_true', isSounding_eq_false, isFree_eq_false]

section
variable {k : Fin 192} {l n : Fin 8} {v : Fin 48} {pitch : Nat} {c : NoteOnCause} {s u : State}

/-- The lookup finds the voice that alone has the pitch (R126). -/
theorem lookup_of_standing (hlive : s.val.voices[v].state ≠ .free) (hsect : s.val.voices[v].sect = n)
    (hpitch : s.val.voices[v].pitch = pitch)
    (hone : ∀ w : Fin 48, s.val.voices[w].state ≠ .free → s.val.voices[w].sect = n → s.val.voices[w].pitch = pitch → w = v) :
    s.lookup n pitch = some v := by
  cases h : s.lookup n pitch with
  | none => exact absurd hpitch (lookup_none.mp h v (Voice.isFree_eq_false.mpr hlive) hsect)
  | some w =>
    obtain ⟨hlive', hsect', hpitch'⟩ := lookup_some h
    rw [hone w (Voice.isFree_eq_false.mp hlive') hsect' hpitch']

/-- The lookup finds nothing where no voice has the pitch. -/
theorem lookup_of_none (h : ∀ v : Fin 48, s.val.voices[v].state = .free ∨ s.val.voices[v].sect ≠ n ∨
    s.val.voices[v].pitch ≠ pitch) : s.lookup n pitch = none :=
  lookup_none.mpr fun w hlive hsect =>
    ((h w).resolve_left (Voice.isFree_eq_false.mp hlive)).resolve_left (not_not_intro hsect)

/-- The FREE entry below which none is FREE is the lowest (R118). -/
theorem lowestFree_of_free (hfree : s.val.voices[v].state = .free)
    (hlow : ∀ w : Fin 48, w < v → s.val.voices[w].state ≠ .free) : s.lowestFree = some v := by
  refine List.find?_eq_some_iff_getElem.mpr ⟨Voice.isFree_iff.mpr hfree, v.val, by simp, by simp, fun j hj => ?_⟩
  have := hlow ⟨j, by omega⟩ hj
  rw [List.getElem_finRange, Bool.not_eq_true', Voice.isFree_eq_false]
  exact this

/-- With a FREE entry the lowest takes the new voice (R128). -/
theorem roomFor_of_free (hfree : s.val.voices[v].state = .free)
    (hlow : ∀ w : Fin 48, w < v → s.val.voices[w].state ≠ .free) : s.roomFor = some v := by
  rw [State.roomFor, lowestFree_of_free hfree hlow]

/-- With none FREE the oldest RELEASING voice of the whole table takes it. -/
theorem roomFor_of_releasing (hfull : ∀ v : Fin 48, s.val.voices[v].state ≠ .free)
    (hone : ∃ v : Fin 48, s.val.voices[v].state ≠ .sounding) :
    ∃ v : Fin 48, s.val.voices[v].state ≠ .sounding ∧
      (∀ w : Fin 48, s.val.voices[w].state ≠ .sounding → s.val.voices[v].serial ≤ s.val.voices[w].serial) ∧
      s.roomFor = some v := by
  have hnone : s.lowestFree = none := lowestFree_none.mpr fun v => Voice.isFree_eq_false.mpr (hfull v)
  have hroom : s.roomFor = s.oldest Voice.isReleasing := by rw [State.roomFor, hnone]
  have hreleasing : ∀ w : Fin 48, s.val.voices[w].state ≠ .sounding → s.val.voices[w].isReleasing = true := fun w hw =>
    Voice.isReleasing_iff.mpr ⟨hw, hfull w⟩
  rw [hroom]
  cases h : s.oldest Voice.isReleasing with
  | none =>
    obtain ⟨w, hw⟩ := hone
    exact absurd (hreleasing w hw) (by rw [oldest_none h w]; decide)
  | some v =>
    obtain ⟨hv, hold⟩ := oldest_some h
    exact ⟨v, (Voice.isReleasing_iff.mp hv).1, fun w hw => hold w (hreleasing w hw), rfl⟩

/-- With every voice SOUNDING there is no room. -/
theorem roomFor_of_sounding (h : ∀ v : Fin 48, s.val.voices[v].state = .sounding) : s.roomFor = none := by
  have hnone : s.lowestFree = none :=
    lowestFree_none.mpr fun v => Voice.isFree_eq_false.mpr (by rw [h v]; decide)
  rw [State.roomFor, hnone]
  cases ho : s.oldest Voice.isReleasing with
  | none => rfl
  | some v => exact absurd (h v) (Voice.isReleasing_iff.mp (oldest_some ho).1).1

/-! ### Attacks -/

/-- The level of an attack, as R49 reads. -/
theorem attackLevel_eq (n : Fin 8) (x : Layer) (s : State) :
    attackLevel n x s =
      if x.accent = true ∧ 0 < s.exu.accentCount then min 255 (s.exu.sections[n].level + s.exu.sections[n].boost)
      else s.exu.sections[n].level := by
  simp [attackLevel]

theorem NotesOnly.exu (h : NotesOnly s u) : u.exu = s.exu := h.play.exu

/-- Making room takes no serial (R119). -/
theorem makeRoom_serial (n : Fin 8) (s : State) : (makeRoom n s).val.serial = s.val.serial := by
  rcases makeRoom_cases n s with h | ⟨v, _, h⟩ <;> rw [h]
  rfl

/-- What sounding a voice makes of the part in which room was made (R127, R128, R131). -/
theorem sound_makeRoom {level : Nat} (hlevel : attackLevel n s.reg.active[l] s = level) (k : Fin 192) (pitch : Nat)
    (c : NoteOnCause) (v : Fin 48) :
    let u := makeRoom n s
    sound k l n pitch c v u =
      { pushSection n (.noteOn n pitch level c) u with
        val :=
          { voices :=
              u.val.voices.set v
                { state := .sounding, sect := n, pitch := pitch, holders := 1, serial := s.val.serial + 1 }
            held :=
              u.val.held.map fun h =>
                if h.key = k then { h with pairs := h.pairs ++ [{ voice := v, layer := l }] } else h
            serial := s.val.serial + 1 } } := by
  have hroom := makeRoom_notesOnly n s
  have hlevel : attackLevel n (makeRoom n s).reg.active[l] (makeRoom n s) = level := by
    rw [← hlevel, attackLevel_eq, attackLevel_eq, hroom.reg, hroom.exu]
  rw [← hlevel, ← makeRoom_serial n s]
  generalize makeRoom n s = u
  rfl

theorem admitsAttack_of_room (h : s.soundingTotal + 2 ≤ 128 - s.fill) : s.admitsAttack = true := decide_eq_true h

theorem admitsAttack_of_full (h : 128 - s.fill < s.soundingTotal + 2) : s.admitsAttack = false :=
  decide_eq_false (not_le.mpr h)

/-- A new voice is sounded in the entry there is for it once room is made. -/
theorem newVoice_of_some (h : s.soundingTotal + 2 ≤ 128 - s.fill) (hv : (makeRoom n s).roomFor = some v) :
    newVoice k l n pitch c s = sound k l n pitch c v (makeRoom n s) := by
  rw [newVoice, if_pos (admitsAttack_of_room h)]; simp only [hv]

/-- With no entry for it the attack is dropped (R130). -/
theorem newVoice_of_none (h : s.soundingTotal + 2 ≤ 128 - s.fill) (hnone : (makeRoom n s).roomFor = none) :
    newVoice k l n pitch c s = dropAttack (makeRoom n s) := by
  rw [newVoice, if_pos (admitsAttack_of_room h)]; simp only [hnone]

theorem newVoice_of_full (h : 128 - s.fill < s.soundingTotal + 2) : newVoice k l n pitch c s = dropAttack s := by
  rw [newVoice, admitsAttack_of_full h]; rfl

theorem retrigger_of_room (h : s.soundingTotal + 2 ≤ 128 - s.fill) :
    retrigger k l n pitch v s = sound k l n pitch .retrigger v (makeRoom n s) := if_pos (admitsAttack_of_room h)

theorem retrigger_of_full (h : 128 - s.fill < s.soundingTotal + 2) : retrigger k l n pitch v s = dropAttack s := by
  rw [retrigger, admitsAttack_of_full h]; rfl

/-! ### Placing -/

theorem placePitch_of_not_ready (h : s.scn.readiness[n] ≠ .ready) : placePitch k l n c pitch s = s := if_pos h

/-- Where no voice has the pitch, a full list drops the attack and any other takes a new voice (R125, R128). -/
theorem placePitch_of_none (hready : s.scn.readiness[n] = .ready) (hnone : s.lookup n pitch = none) :
    placePitch k l n c pitch s =
      if 16 ≤ (s.pairsOf k).length then dropAttack s else newVoice k l n pitch c s := by
  rw [placePitch, if_neg (not_not_intro hready), hnone]; rfl

/-- Where a voice has the pitch, a key that lists it is passed over, a full list drops the attack, and otherwise a SOUNDING voice is
shared and a RELEASING one retriggered (R125 to R127). -/
theorem placePitch_of_some (hready : s.scn.readiness[n] = .ready) (hsome : s.lookup n pitch = some v) :
    placePitch k l n c pitch s =
      if listHolds (s.pairsOf k) v = true then s
      else if 16 ≤ (s.pairsOf k).length then dropAttack s
      else if s.val.voices[v].isSounding = true then shareVoice k l v s
      else retrigger k l n pitch v s := by
  rw [placePitch, if_neg (not_not_intro hready), hsome]; rfl

end

/-- Settles O42: nothing is found, so the pitch is dropped or takes a new voice, in the room `makeRoom` leaves. -/
theorem placingANewVoice : Obligations.PlacingANewVoice := by
  intro s k l n cause pitch level u sounded
  refine ⟨placePitch_of_not_ready, fun hready hnone => ?_⟩
  have hplace := placePitch_of_none (k := k) (l := l) (c := cause) hready (lookup_of_none hnone)
  have hsound : ∀ v, sound k l n pitch cause v u = sounded v := sound_makeRoom (attackLevel_eq ..) k pitch cause
  refine ⟨fun hfull => ?_, fun hlist => ?_, fun hroom hlist => ?_⟩
  · rw [hplace, newVoice_of_full hfull]; exact ite_self _
  · rw [hplace, if_pos hlist]; rfl
  · rw [hplace, if_neg (not_le.mpr hlist)]
    refine ⟨fun v hfree hlow => ?_, fun hall hone => ?_, fun hall => ?_⟩
    · exact (newVoice_of_some hroom (roomFor_of_free hfree hlow)).trans (hsound v)
    · obtain ⟨v, hv, hold, hroomy⟩ := roomFor_of_releasing hall hone
      exact ⟨v, hv, hold, (newVoice_of_some hroom hroomy).trans (hsound v)⟩
    · exact newVoice_of_none hroom (roomFor_of_sounding hall)

/-- Settles O43: the lookup finds the voice, whose state decides between sharing and retriggering. -/
theorem placingOnAStandingVoice : Obligations.PlacingOnAStandingVoice := by
  intro s k l n cause pitch v hready hlive hsect hpitch hone level u paired t
  have hplace : t = _ :=
    placePitch_of_some (k := k) (l := l) (c := cause) hready (lookup_of_standing hlive hsect hpitch hone)
  have hlisted : listHolds (s.pairsOf k) v = true ↔ ∃ q ∈ s.pairsOf k, q.voice = v := by simp [listHolds]
  have hnot : (∀ q ∈ s.pairsOf k, q.voice ≠ v) → ¬ listHolds (s.pairsOf k) v = true := fun h hl => by
    obtain ⟨q, hq, hv⟩ := hlisted.mp hl
    exact h q hq hv
  refine ⟨fun h => ?_, fun h hlist => ?_, fun h hlist => ⟨fun hs => ?_, fun hs => ⟨fun hfull => ?_, fun hroom => ?_⟩⟩⟩
  · rw [hplace, if_pos (hlisted.mpr h)]
  · rw [hplace, if_neg (hnot h), if_pos hlist]; rfl
  · rw [hplace, if_neg (hnot h), if_neg (not_le.mpr hlist), if_pos (Voice.isSounding_iff.mpr hs)]; rfl
  · rw [hplace, if_neg (hnot h), if_neg (not_le.mpr hlist), if_neg (mt Voice.isSounding_iff.mp hs),
      retrigger_of_full hfull]
    rfl
  · rw [hplace, if_neg (hnot h), if_neg (not_le.mpr hlist), if_neg (mt Voice.isSounding_iff.mp hs),
      retrigger_of_room hroom]
    exact sound_makeRoom (attackLevel_eq ..) k pitch .retrigger v

end Sys2Proof.Machine
end

section
/-! ## Beat events: the report of the clock's state and the commit of a waiting change (R63, R64, R105, R111) -/

namespace Sys2Proof.Machine

/-! ### The ClockState report (R64, R154) -/

section
variable {s : State} {r : Report} {before : ClockPhase} {c : Clock}

theorem offerGeneral_of_room (h : s.soundingTotal + 1 ≤ 128 - s.fill) : offerGeneral r s = pushGeneral r s :=
  if_pos (decide_eq_true h)

theorem offerGeneral_of_full (h : 128 - s.fill < s.soundingTotal + 1) : offerGeneral r s = s :=
  if_neg fun ha => absurd (of_decide_eq_true ha) (not_le.mpr h)

/-- A clock put in force and reported: at most the clock and the queue differ. -/
theorem reportPhase_frame (before : ClockPhase) (c : Clock) (s : State) :
    reportPhase before (s.withTck c) = { s with tck := c, evq := (reportPhase before (s.withTck c)).evq } := by
  have h := reportPhase_queueOnly before (s.withTck c)
  rw [QueueOnly] at h
  rw [h]; rfl

/-- A state that has not changed makes no report, and a queue without room takes none. -/
theorem reportPhase_evq_of_silent (h : c.phase = before ∨ 128 - s.fill < s.soundingTotal + 1) :
    (reportPhase before (s.withTck c)).evq = s.evq := by
  unfold reportPhase; split
  · rfl
  next hne => rw [offerGeneral_of_full (s := s.withTck c) (h.resolve_left hne)]; rfl

/-- A state that has changed is reported with P when the queue has room. -/
theorem reportPhase_evq_of_room (hne : c.phase ≠ before) (hroom : s.soundingTotal + 1 ≤ 128 - s.fill) :
    (reportPhase before (s.withTck c)).evq = (pushGeneral (.clockState c.phase c.period) s).evq := by
  have hchanged : (s.withTck c).tck.phase ≠ before := hne
  rw [reportPhase, if_neg hchanged, offerGeneral_of_room (s := s.withTck c) hroom]; rfl

theorem mem_reportPhase_of_room (hne : c.phase ≠ before) (hroom : s.soundingTotal + 1 ≤ 128 - s.fill) :
    { report := .clockState c.phase c.period, due := s.tick, order := s.evq.made } ∈
      (reportPhase before (s.withTck c)).evq.entries := by
  rw [reportPhase_evq_of_room hne hroom]; exact mem_pushGeneral.mpr (.inl rfl)

end

/-! ### The Registration Unit at a beat event (R105, R111) -/

theorem Trigger.metByBeat_iff {isBar : Bool} {w : Trigger} :
    w.metByBeat isBar = true ↔ w = .beat ∨ (w = .bar ∧ isBar = true) := by
  cases w <;> simp [Trigger.metByBeat]

theorem Trigger.metByBeat_eq_false {isBar : Bool} {w : Trigger} :
    w.metByBeat isBar = false ↔ w = .reversal ∨ (w = .bar ∧ isBar = false) := by
  cases w <;> simp [Trigger.metByBeat]

section
variable {isBar : Bool} {s : State}

/-- A waiting change of a condition that the beat meets is committed. -/
theorem takeBeat_of_met {c : Change} (hslot : s.reg.slot = some c) (h : c.trigger.metByBeat isBar = true) :
    takeBeat isBar s = commit c.preset (.next c.trigger) c.origin s := by
  simp only [takeBeat, hslot, h, if_true]

/-- An empty slot, and a change of a condition that the beat does not meet, stay. -/
theorem takeBeat_of_unmet (h : ∀ c, s.reg.slot = some c → c.trigger.metByBeat isBar = false) : takeBeat isBar s = s := by
  unfold takeBeat
  split
  next c hslot => rw [if_neg (Bool.eq_false_iff.mp (h c hslot))]
  · rfl

end

/-! ### The beat event (R60, R62, R63) -/

/-- Beat-in-bar after a beat event, as R62 reads. -/
theorem nextBeatInBar_eq (before : ClockPhase) (c : Clock) :
    nextBeatInBar before c =
      if c.barMark = true ∨ before = .stopped ∨ c.beatsPerBar ≤ c.beatInBar then 1 else c.beatInBar + 1 := by
  simp only [nextBeatInBar, Bool.or_eq_true, beq_iff_eq, decide_eq_true_eq, or_assoc]

/-- What a beat event that makes `k` the clock does to a state `s`: `u` is the state once the clock's change is reported, and `t`
the state once the Registration Unit has taken the beat. -/
structure BeatTaken (s : State) (k : Clock) (u t : State) : Prop where
  reportedFrame : u = { s with tck := k, evq := u.evq }
  silent : k.phase = s.tck.phase ∨ 128 - s.fill < s.soundingTotal + 1 → u.evq = s.evq
  reported : k.phase ≠ s.tck.phase → s.soundingTotal + 1 ≤ 128 - s.fill →
    u.evq = (pushGeneral (.clockState k.phase k.period) s).evq ∧
      { report := .clockState k.phase k.period, due := s.tick, order := s.evq.made } ∈ u.evq.entries
  clock : t.tck = u.tck
  frame : t = { s with tck := t.tck, reg := t.reg, val := t.val, evq := t.evq, stu := t.stu }
  commits : ∀ c, s.reg.slot = some c → c.trigger = .beat ∨ (c.trigger = .bar ∧ k.beatInBar = 1) →
    t = u.afterCommit c.preset (.next c.trigger) c.origin ∧
      t.reg = { s.reg with active := s.reg.store[c.preset].layers, activePreset := some c.preset, slot := none }
  waits : (∀ c, s.reg.slot = some c → c.trigger = .reversal ∨ (c.trigger = .bar ∧ k.beatInBar ≠ 1)) → t = u

/-- A beat event is the report of the clock's state, and then the Registration Unit's taking of the beat. -/
theorem beatEvent_eq_takeBeat (before : ClockPhase) (c : Clock) (s : State) :
    beatEvent before c s =
      takeBeat ((c.beat before).beatInBar == 1) (reportPhase before (s.withTck (c.beat before))) := by
  have hclock : (reportPhase before (s.withTck (c.beat before))).tck = c.beat before := by rw [reportPhase_frame]
  rw [beatEvent, hclock]

/-- What a beat event does, said once for real and synthetic beats. -/
theorem beatEvent_taken {s : State} {c k : Clock} (hk : c.beat s.tck.phase = k) :
    BeatTaken s k (reportPhase s.tck.phase (s.withTck k)) (beatEvent s.tck.phase c s) := by
  subst hk
  have hplay := beatEvent_playOnly s.tck.phase c s
  have htake := beatEvent_eq_takeBeat s.tck.phase c s
  have hframe := reportPhase_frame s.tck.phase (c.beat s.tck.phase) s
  have hreg : (reportPhase s.tck.phase (s.withTck (c.beat s.tck.phase))).reg = s.reg := by rw [hframe]
  rw [PlayOnly] at hplay
  refine
    { reportedFrame := hframe
      silent := reportPhase_evq_of_silent
      reported := fun hne hroom => ⟨reportPhase_evq_of_room hne hroom, mem_reportPhase_of_room hne hroom⟩
      clock := by rw [hplay, hframe]; rfl
      frame := by rw [hplay]; rfl
      commits := fun w hslot hmet => ?_
      waits := fun hwait => ?_ }
  · rw [htake, takeBeat_of_met (hreg ▸ hslot) (Trigger.metByBeat_iff.mpr (by rwa [beq_iff_eq]))]
    exact ⟨commit_eq_afterCommit .., by rw [commit_reg, hreg]⟩
  · rw [htake]
    refine takeBeat_of_unmet fun w hslot => Trigger.metByBeat_eq_false.mpr ?_
    rw [beq_eq_false_iff_ne]
    exact hwait w (hreg ▸ hslot)

end Sys2Proof.Machine
end

section
/-! ## The Tempo Clock (R56 to R65) and the edges of its lines and of CUT (R56, R90) -/

namespace Sys2Proof.Machine

/-! ### Edge filters (R56, R90) -/

/-- The table of R56 and R90 for one sample of a line. -/
theorem LineFilter.sample_eq (need : Nat) (now : Tick) (level : Bool) (f : LineFilter) :
    f.sample need now level =
      if f.sampledAt = some now then f
      else if level = false then { f with armed := true, high := 0, sampledAt := some now }
      else if f.armed = false then { f with sampledAt := some now }
      else if f.high < need then { f with high := f.high + 1, sampledAt := some now }
      else { armed := false, high := 0, accepted := true, sampledAt := some now } := by
  by_cases hs : f.sampledAt = some now
  · rw [sample_of_sampled hs, if_pos hs]
  · rw [sample_of_wants hs, if_neg hs]
    unfold LineFilter.take
    cases level
    · rfl
    · cases ha : f.armed
      · simp [ha]
      · by_cases hh : f.high < need <;> simp [hh]

/-- A line that wants its sample of the present tick and would accept an edge with a high one. -/
abbrev LineFilter.accepts (need : Nat) (now : Tick) (f : LineFilter) : Prop :=
  f.sampledAt ≠ some now ∧ f.armed = true ∧ f.high = need

/-- A filter that has just accepted an edge. -/
def LineFilter.edge (now : Tick) : LineFilter := { armed := false, high := 0, accepted := true, sampledAt := some now }

section
variable {need : Nat} {now : Tick} {f : LineFilter}

theorem LineFilter.takeEdge_of_accepted (h : f.accepted = true) :
    f.takeEdge need now = some { f with accepted := false } :=
  takeEdge_eq_some.mpr (.inl ⟨h, rfl⟩)

/-- An edge that the command stands for is the one the accepting sample would have left. -/
theorem LineFilter.takeEdge_of_accepts (ha : f.accepted = false) (h : f.accepts need now) :
    f.takeEdge need now = some { LineFilter.edge now with accepted := false } := by
  obtain ⟨hs, hr, hh⟩ := h
  exact takeEdge_eq_some.mpr (.inr ⟨ha, hs, hr, hh, rfl⟩)

theorem LineFilter.takeEdge_of_not_accepts (ha : f.accepted = false) (h : ¬ f.accepts need now) :
    f.takeEdge need now = none := by
  rw [Option.eq_none_iff_forall_ne_some]
  intro g hg
  rcases takeEdge_eq_some.mp hg with ⟨ha', _⟩ | ⟨_, hs, hr, hh, _⟩
  · rw [ha] at ha'; cases ha'
  · exact h ⟨hs, hr, hh⟩

end

section
variable {s : State} {f : LineFilter}

theorem exec_clickLineSample (hr : s.inReset = none) (beat bar : Bool) :
    exec (.clickLineSample beat bar) s =
      .next (s.withTck
        { s.tck with
          beatLine := s.tck.beatLine.sample 1 s.tick beat
          barLine := s.tck.barLine.sample 1 s.tick bar }) := by
  have harm : exec (.clickLineSample beat bar) s = execClickLineSample beat bar s := rfl
  rw [harm, execClickLineSample, whileRunning_of_running hr]

theorem exec_cutLineSample (hr : s.inReset = none) (cut : Bool) :
    exec (.cutLineSample cut) s =
      .next (if s.scn.cutLine.sampledAt = some s.tick then s
        else s.withScn { s.scn with lastCut := cut, cutLine := s.scn.cutLine.sample 2 s.tick cut }) := by
  have harm : exec (.cutLineSample cut) s = execCutLineSample cut s := rfl
  rw [harm, execCutLineSample, whileRunning_of_running hr]
  simp only [LineFilter.wants_iff, ite_not]

theorem exec_beatEdge_of_some (hr : s.inReset = none) (h : s.tck.beatLine.takeEdge 1 s.tick = some f) :
    exec .beatEdge s = .next (acceptBeat (s.withTck { s.tck with beatLine := f })) := by
  have harm : exec .beatEdge s = execBeatEdge s := rfl
  rw [harm, execBeatEdge, whileRunning_of_running hr, h]

theorem exec_beatEdge_of_none (hr : s.inReset = none) (h : s.tck.beatLine.takeEdge 1 s.tick = none) :
    exec .beatEdge s = .next s := by
  have harm : exec .beatEdge s = execBeatEdge s := rfl
  rw [harm, execBeatEdge, whileRunning_of_running hr, h]

theorem exec_barEdge_of_some (hr : s.inReset = none) (h : s.tck.barLine.takeEdge 1 s.tick = some f) :
    exec .barEdge s = .next (s.withTck { s.tck with barLine := f, barMark := true }) := by
  have harm : exec .barEdge s = execBarEdge s := rfl
  rw [harm, execBarEdge, whileRunning_of_running hr, h]

theorem exec_barEdge_of_none (hr : s.inReset = none) (h : s.tck.barLine.takeEdge 1 s.tick = none) :
    exec .barEdge s = .next s := by
  have harm : exec .barEdge s = execBarEdge s := rfl
  rw [harm, execBarEdge, whileRunning_of_running hr, h]

theorem exec_cutEdge_of_some (hr : s.inReset = none) (h : s.scn.cutLine.takeEdge 2 s.tick = some f) :
    exec .cutEdge s =
      .next (cutIfNormal .line
        (s.withScn { s.scn with cutLine := f, lastCut := s.scn.lastCut || !s.scn.cutLine.accepted })) := by
  have harm : exec .cutEdge s = execCutEdge s := rfl
  rw [harm, execCutEdge, whileRunning_of_running hr, h]

theorem exec_cutEdge_of_none (hr : s.inReset = none) (h : s.scn.cutLine.takeEdge 2 s.tick = none) :
    exec .cutEdge s = .next s := by
  have harm : exec .cutEdge s = execCutEdge s := rfl
  rw [harm, execCutEdge, whileRunning_of_running hr, h]

end

/-- Settles O24: samples follow `LineFilter.sample_eq`, and edge commands see a filter through `takeEdge` alone. -/
theorem lineSamplesFilterEdges : Obligations.LineSamplesFilterEdges := by
  intro s hr
  refine ⟨fun beat bar cut => ?_, ?_⟩
  · intro after
    have hafter : ∀ need f high, after need f high = f.sample need s.tick high := fun need f high =>
      (LineFilter.sample_eq need s.tick high f).symm
    simp only [hafter]
    exact ⟨exec_clickLineSample hr beat bar, fun hs => by rw [exec_cutLineSample hr, if_neg hs]; rfl,
      fun hs => by rw [exec_cutLineSample hr, if_pos hs]⟩
  · intro accepts edge
    refine ⟨fun ha => ⟨fun h => ?_, fun h => ?_⟩, fun ha => ⟨fun h => ?_, fun h => ?_⟩,
      fun ha => ⟨fun h => ?_, fun h => ?_⟩⟩
    · have hedge := exec_beatEdge_of_some (s := { s with tck := { s.tck with beatLine := edge } }) hr rfl
      rw [exec_beatEdge_of_some hr (LineFilter.takeEdge_of_accepts ha h), hedge]; rfl
    · exact exec_beatEdge_of_none hr (LineFilter.takeEdge_of_not_accepts ha h)
    · have hedge := exec_barEdge_of_some (s := { s with tck := { s.tck with barLine := edge } }) hr rfl
      rw [exec_barEdge_of_some hr (LineFilter.takeEdge_of_accepts ha h), hedge]; rfl
    · exact exec_barEdge_of_none hr (LineFilter.takeEdge_of_not_accepts ha h)
    · have hedge := exec_cutEdge_of_some (s := { s with scn := { s.scn with lastCut := true, cutLine := edge } }) hr rfl
      rw [exec_cutEdge_of_some hr (LineFilter.takeEdge_of_accepts ha h), hedge, ha, Bool.not_false, Bool.or_true]; rfl
    · exact exec_cutEdge_of_none hr (LineFilter.takeEdge_of_not_accepts ha h)

/-! ### BAR_EDGE and LAST_REAL_BEAT_ABSENT (R57, R62) -/

theorem exec_lastRealBeatAbsent {s : State} (hr : s.inReset = none) :
    exec .lastRealBeatAbsent s = .next (if s.beatAbsentDue then s.withTck { s.tck with lastReal := none } else s) := by
  have harm : exec .lastRealBeatAbsent s = execLastRealBeatAbsent s := rfl
  rw [harm, execLastRealBeatAbsent, whileRunning_of_running hr]

/-- Settles O26: the edge is the accepted one, and the age of the last real beat is what `beatAbsentDue` asks for. -/
theorem barEdgeMarksAndOldBeatsLapse : Obligations.BarEdgeMarksAndOldBeatsLapse := by
  intro s hr
  refine ⟨fun ha => exec_barEdge_of_some hr (LineFilter.takeEdge_of_accepted ha), fun l hl => ?_⟩
  have hdue : s.beatAbsentDue = true ↔ 20001 ≤ (s.tick - l).toInt := by simp [beatAbsentDue_iff, hl]
  rw [exec_lastRealBeatAbsent hr]
  exact ⟨fun hold => by rw [if_pos (hdue.mpr hold)]; rfl, fun hyoung => by rw [if_neg (mt hdue.mp (not_le.mpr hyoung))]⟩

/-! ### SetClock (R65) -/

/-- What SetClock makes of a payload of two bytes (R65). -/
theorem setClock_eq (b c : Byte) (s : State) :
    let b' := max 1 (min 16 b.toNat)
    let c' := min 8 c.toNat
    setClock [b, c] s =
      { state := s.withTck { s.tck with beatsPerBar := b', coast := c' }
        status := doneOrClamped (b' != b.toNat || c' != c.toNat)
        data := [BitVec.ofNat 8 b', BitVec.ofNat 8 c'] } := by
  intro b' c'
  have hb : clampNat 1 16 (byteAt [b, c] 0) = b' := clampNat_eq (by decide) _
  have hc : clampNat 0 8 (byteAt [b, c] 1) = c' := (clampNat_eq (by decide) _).trans (Nat.zero_max _)
  unfold setClock
  rw [hb, hc]
  rfl

/-- Settles O28: the request goes to `setClock`, whose clamps are `max` and `min`. -/
theorem setClockPutsClampedValuesInForce : Obligations.SetClockPutsClampedValuesInForce := by
  intro s tag b c rest ho b' c'
  have harm : exec .setClock s = serve 0x05 2 setClock s := rfl
  have hclamped : (b' != b.toNat || c' != c.toNat) = true ↔ ¬ (b' = b.toNat ∧ c' = c.toNat) := by
    rw [Bool.or_eq_true, bne_iff_ne, bne_iff_ne, not_and_or]
  rw [harm, serve_of_offers (len := 2) ho rfl, setClock_eq, ← code_doneOrClamped hclamped]
  rfl

/-! ### The deadline (R60, R61) -/

/-- The clock after a synthetic beat (R60, R61, R62). -/
theorem Clock.syntheticBeat_beat (c : Clock) :
    c.syntheticBeat.beat c.phase =
      { c with
        phase := .coasting
        synthetic := c.synthetic + 1
        reference := c.reference + BitVec.ofNat 32 c.period
        deadline := some (c.reference + BitVec.ofNat 32 c.period + BitVec.ofNat 32 (c.period + c.period / 4))
        barMark := false
        beatInBar :=
          if c.barMark = true ∨ c.phase = .stopped ∨ c.beatsPerBar ≤ c.beatInBar then 1 else c.beatInBar + 1 } := by
  rw [Clock.beat, nextBeatInBar_eq]; rfl

theorem exec_deadline {s : State} {d : Tick} (hr : s.inReset = none) (hd : s.tck.deadline = some d) :
    exec .deadline s = .next (if s.reached d then meetDeadline s else s) := by
  have harm : exec .deadline s = execDeadline s := rfl
  have hdue : s.deadlineDue = true ↔ s.reached d := by simp [deadlineDue_iff, hd]
  rw [harm, execDeadline, whileRunning_of_running hr]
  simp only [hdue]

/-- Settles O27: below C the deadline is the beat event of the synthetic beat, else the report of the stopped clock. -/
theorem deadlineCoastsOrStops : Obligations.DeadlineCoastsOrStops := by
  intro s d hr hd
  rw [exec_deadline hr hd]
  refine ⟨fun h => by rw [if_neg h], fun h hcoast => ?_, fun h hspent => ?_⟩
  · intro reference beat
    have hbeat := beatEvent_taken s.tck.syntheticBeat_beat
    rw [if_pos h, meetDeadline, if_pos hcoast]
    exact ⟨_, _, rfl, hbeat.reportedFrame, hbeat.silent ∘ .imp_left .symm, hbeat.reported ∘ .symm, hbeat.clock,
      hbeat.frame, hbeat.commits, hbeat.waits⟩
  · have hframe := reportPhase_frame s.tck.phase s.tck.stop s
    rw [if_pos h, meetDeadline, if_neg (not_lt.mpr hspent)]
    refine ⟨_, rfl, ?_, ?_, fun hq => reportPhase_evq_of_silent (hq.imp_left .symm),
      fun hne hroom => mem_reportPhase_of_room (Ne.symm hne) hroom⟩
    · rw [hframe]
    · rw [hframe]; rfl

/-! ### Real beats (R57 to R60) -/

theorem tooSoon_iff {now : Tick} {c : Clock} :
    tooSoon now c = true ↔ ∃ l, c.lastReal = some l ∧ (now - l).toInt < 2000 := by
  simp [tooSoon, Option.any_eq_true, wrapDiff, shortestBeat]

section
variable {s : State}

theorem acceptBeat_of_soon (h : ∃ l, s.tck.lastReal = some l ∧ (s.tick - l).toInt < 2000) : acceptBeat s = s :=
  if_pos (tooSoon_iff.mpr h)

theorem acceptBeat_of_late (h : ∀ l, s.tck.lastReal = some l → 2000 ≤ (s.tick - l).toInt) :
    acceptBeat s = beatEvent s.tck.phase (s.tck.realBeat s.tick) s := by
  refine if_neg fun hsoon => ?_
  obtain ⟨l, hl, hlt⟩ := tooSoon_iff.mp hsoon
  exact absurd (h l hl) (not_le.mpr hlt)

end

/-- The interval that a real beat measures, as R57 and R58 read: none in STOPPED, none without a last real beat, none above 20000
ticks. -/
def Clock.measures (now : Tick) (c : Clock) : Option Int :=
  match c.phase, c.lastReal with
  | .stopped, _ => none
  | _, none => none
  | _, some l => if (now - l).toInt ≤ 20000 then some (now - l).toInt else none

/-- The state after a real beat that has measured an interval or none (R59). -/
def phaseMeasured (before : ClockPhase) (interval : Option Int) : ClockPhase :=
  match before, interval with
  | .stopped, _ => .starting
  | .starting, none => .starting
  | _, _ => .running

/-- An edge that does not come too soon measures the valid interval. -/
theorem Clock.measures_eq {now : Tick} {c : Clock} (h : ∀ l, c.lastReal = some l → 2000 ≤ (now - l).toInt) :
    (if c.phase = .stopped then none else validInterval now c) = (c.measures now).map Int.toNat := by
  unfold Clock.measures validInterval wrapDiff shortestBeat longestBeat
  cases hl : c.lastReal with
  | none => cases c.phase <;> rfl
  | some l =>
    have hlong := h l hl
    cases c.phase
    case stopped => rfl
    all_goals
      simp only [reduceCtorEq, if_false, Nat.cast_ofNat, hlong, true_and, apply_ite (Option.map Int.toNat)]
      rfl

theorem phaseAfterBeat_eq (before : ClockPhase) (interval : Option Int) :
    phaseAfterBeat before (interval.map Int.toNat).isSome = phaseMeasured before interval := by
  cases before <;> cases interval <;> rfl

/-- After a real beat the clock has a deadline in RUNNING alone: a real beat ends COASTING (R59, R60). -/
theorem phaseMeasured_hasDeadline (before : ClockPhase) (interval : Option Int) :
    (phaseMeasured before interval).hasDeadline = true ↔ phaseMeasured before interval = .running := by
  cases before <;> cases interval <;> simp [phaseMeasured, ClockPhase.hasDeadline]

/-- The clock after a real beat (R57 to R60, R62). -/
theorem Clock.realBeat_beat {now : Tick} {c : Clock} (h : ∀ l, c.lastReal = some l → 2000 ≤ (now - l).toInt) :
    let interval := c.measures now
    let phase := phaseMeasured c.phase interval
    let period := (interval.map Int.toNat).getD c.period
    (c.realBeat now).beat c.phase =
      { c with
        phase := phase
        lastReal := some now
        period := period
        reference := now
        deadline := if phase = .running then some (now + BitVec.ofNat 32 (period + period / 4)) else none
        synthetic := 0
        barMark := false
        beatInBar :=
          if c.barMark = true ∨ c.phase = .stopped ∨ c.beatsPerBar ≤ c.beatInBar then 1 else c.beatInBar + 1 } := by
  intro interval phase period
  have hbeat : c.realBeat now =
      { c with phase := phase, period := period, lastReal := some now, reference := now, synthetic := 0 } := by
    simp only [Clock.realBeat, Clock.measures_eq h, phaseAfterBeat_eq, phase, period, interval]
  rw [hbeat, Clock.beat, nextBeatInBar_eq]
  simp only [deadlineOf, phase, phaseMeasured_hasDeadline]

/-- The clock once an accepted BEAT edge is taken. -/
def Clock.edgeTaken (c : Clock) : Clock := { c with beatLine := { c.beatLine with accepted := false } }

section
variable {s : State}

theorem exec_beatEdge_of_soon (hr : s.inReset = none) (ha : s.tck.beatLine.accepted = true)
    (h : ∃ l, s.tck.lastReal = some l ∧ (s.tick - l).toInt < 2000) :
    exec .beatEdge s = .next (s.withTck s.tck.edgeTaken) := by
  rw [exec_beatEdge_of_some hr (LineFilter.takeEdge_of_accepted ha)]
  exact congrArg _ (acceptBeat_of_soon (s := s.withTck s.tck.edgeTaken) h)

theorem exec_beatEdge_of_late (hr : s.inReset = none) (ha : s.tck.beatLine.accepted = true)
    (h : ∀ l, s.tck.lastReal = some l → 2000 ≤ (s.tick - l).toInt) :
    exec .beatEdge s = .next (beatEvent s.tck.phase (s.tck.edgeTaken.realBeat s.tick) s) := by
  rw [exec_beatEdge_of_some hr (LineFilter.takeEdge_of_accepted ha)]
  exact congrArg _ (acceptBeat_of_late (s := s.withTck s.tck.edgeTaken) h)

end

/-- Settles O25: an edge that comes too soon is only taken, any other is the beat event of the real beat. -/
theorem beatEdgeIsARealBeat : Obligations.BeatEdgeIsARealBeat := by
  intro s hr ha
  refine ⟨exec_beatEdge_of_soon hr ha, fun hlate => ?_⟩
  intro interval phase period beat
  have hbeat := beatEvent_taken (s := s) (Clock.realBeat_beat (c := s.tck.edgeTaken) hlate)
  exact ⟨_, _, exec_beatEdge_of_late hr ha hlate, hbeat.reportedFrame, hbeat.silent, hbeat.reported, hbeat.clock,
    hbeat.frame, hbeat.commits, hbeat.waits⟩

end Sys2Proof.Machine
end

section
/-! ## Answers that leave the blocks alone, and refusals by KIND and LEN (R169, R174, R182) -/

namespace Sys2Proof.Machine

variable {s : State} {kind tag : Byte} {p : List Byte} {rest : List Frame} {len : Nat}
  {owner : List Byte → State → Answer} {status : Status} {data : List Byte}

/-- A frame taken and answered by an owner that has written the map alone (R174, R175). -/
theorem reply_withImap (m : Vector KeyEntry 192) :
    reply { kind := kind, tag := tag, payload := p }
        { state := State.withImap { s with lnk := { s.lnk with inbound := rest } } m, status := status, data := data } =
      { s with imap := m, lnk := s.lnk.answered rest kind tag (BitVec.ofNat 8 (statusCode status)) data } := rfl

/-- A frame taken and answered with no block changed (R174, R175). -/
theorem reply_unchanged :
    reply { kind := kind, tag := tag, payload := p }
        { state := { s with lnk := { s.lnk with inbound := rest } }, status := status, data := data } =
      { s with lnk := s.lnk.answered rest kind tag (BitVec.ofNat 8 (statusCode status)) data } := rfl

/-- A command that takes the requests of one KIND and refuses those of any other LEN (R174). -/
def TakesLength (i : Instr) (kind : Byte) (len : Nat) : Prop :=
  ∃ carryOut : Frame → State → State, (∀ s, exec i s = takeRequest (fun k => k == kind) carryOut s) ∧
    ∀ f s, f.payload.length ≠ len → carryOut f s = reply f { state := s, status := .refusedLength, data := [] }

theorem TakesLength.of_serve {i : Instr} (h : ∀ s, exec i s = serve kind len owner s) : TakesLength i kind len :=
  ⟨_, h, fun _ _ hne => if_neg hne⟩

theorem TakesLength.refuses {i : Instr} (h : TakesLength i kind len) (ho : s.offers kind tag p rest)
    (hne : p.length ≠ len) : exec i s = .next { s with lnk := s.lnk.answered rest kind tag 0x11 [] } := by
  obtain ⟨carryOut, hexec, hrefuse⟩ := h
  rw [hexec, takeRequest_of_offers ho (by simp), hrefuse _ _ hne]
  exact congrArg _ reply_unchanged

/-- The commands of the requests of a fixed LEN, with KIND and LEN (R182). -/
def fixedLengths : List (Instr × Byte × Nat) :=
  [(.setScan, 0x01, 2), (.setBellows, 0x02, 3), (.calibrate, 0x03, 0), (.setExpression, 0x04, 10), (.setClock, 0x05, 2),
    (.readKeys, 0x07, 2), (.writeSection, 0x08, 18), (.readSection, 0x09, 1), (.sectionReady, 0x0A, 3),
    (.cutRequest, 0x0B, 0), (.resume, 0x0C, 0), (.selectPreset, 0x0D, 2), (.cancelPending, 0x0E, 0),
    (.writeLayer, 0x0F, 11), (.readLayer, 0x10, 2), (.setPresetFlags, 0x11, 2), (.status, 0x12, 0),
    (.clearFlags, 0x13, 1), (.reset, 0x14, 0)]

/-- All but Calibrate and Reset are served by an owner; those two judge their LEN themselves. -/
theorem takesLength_of_mem_fixedLengths {i : Instr} (h : (i, kind, len) ∈ fixedLengths) : TakesLength i kind len := by
  have hall : ∀ row ∈ fixedLengths, TakesLength row.1 row.2.1 row.2.2 := by
    simp only [fixedLengths, List.forall_mem_cons]
    have hcalibrate : TakesLength .calibrate 0x03 0 := ⟨_, fun _ => rfl, fun _ _ hne => if_neg hne⟩
    have hreset : TakesLength .reset 0x14 0 := ⟨_, fun _ => rfl, fun _ _ hne => if_neg hne⟩
    exact ⟨.of_serve fun _ => rfl, .of_serve fun _ => rfl, hcalibrate, .of_serve fun _ => rfl, .of_serve fun _ => rfl,
      .of_serve fun _ => rfl, .of_serve fun _ => rfl, .of_serve fun _ => rfl, .of_serve fun _ => rfl,
      .of_serve fun _ => rfl, .of_serve fun _ => rfl, .of_serve fun _ => rfl, .of_serve fun _ => rfl,
      .of_serve fun _ => rfl, .of_serve fun _ => rfl, .of_serve fun _ => rfl, .of_serve fun _ => rfl,
      .of_serve fun _ => rfl, hreset, List.forall_mem_nil _⟩
  exact hall _ h

theorem unassigned_iff {k : Byte} : unassigned k = true ↔ k = 0 ∨ (0x14 < k.toNat ∧ k.toNat ≤ 0x3F) := by
  have hzero : k = 0 → k.toNat ≤ 0x3F := fun h => by simp [h]
  simp only [unassigned, inRequestSpace, Bool.and_eq_true, Bool.or_eq_true, decide_eq_true_eq, beq_iff_eq]
  tauto

theorem exec_unknownRequest (ho : s.offers kind tag p rest) (hk : kind = 0 ∨ (0x14 < kind.toNat ∧ kind.toNat ≤ 0x3F)) :
    exec .unknownRequest s = .next { s with lnk := s.lnk.answered rest kind tag 0x10 [] } := by
  have harm : exec .unknownRequest s = execUnknownRequest s := rfl
  rw [harm, execUnknownRequest, takeRequest_of_offers ho (unassigned_iff.mpr hk)]
  exact congrArg _ reply_unchanged

/-! ### The LEN of WriteKeys (R74) -/

theorem keyCountLegal_iff {n : Nat} : keyCountLegal n = true ↔ 1 ≤ n ∧ n ≤ 4 := by simp [keyCountLegal]

theorem exec_writeKeys_of_offers (ho : s.offers 0x06 tag p rest) :
    exec .writeKeys s =
      .next (serveWriteKeys { kind := 0x06, tag := tag, payload := p } { s with lnk := { s.lnk with inbound := rest } }) := by
  rw [exec_writeKeys ho.1, takeWriteKeys_of_offers ho]

theorem exec_writeKeys_of_short (ho : s.offers 0x06 tag p rest) (hp : p.length < 2) :
    exec .writeKeys s = .next { s with lnk := s.lnk.answered rest 0x06 tag 0x11 [] } := by
  rw [exec_writeKeys_of_offers ho, serveWriteKeys, if_pos hp]
  exact congrArg _ reply_unchanged

section
variable {first count : Byte} {more : List Byte}

/-- A count that is not legal is refused for its value, whatever the LEN. -/
theorem exec_writeKeys_of_illegal_count (ho : s.offers 0x06 tag (first :: count :: more) rest)
    (hc : count.toNat = 0 ∨ 4 < count.toNat) :
    exec .writeKeys s = .next { s with lnk := s.lnk.answered rest 0x06 tag 0x12 [first, count] } := by
  have hillegal : (!keyCountLegal count.toNat) = true := by
    rw [Bool.not_eq_true', ← Bool.not_eq_true, keyCountLegal_iff]; omega
  rw [exec_writeKeys_of_offers ho, serveWriteKeys, if_neg (by simp)]
  exact congrArg _ (if_pos hillegal)

/-- A legal count decides whether the LEN is right. -/
theorem exec_writeKeys_of_legal_count (ho : s.offers 0x06 tag (first :: count :: more) rest)
    (hlo : 1 ≤ count.toNat) (hhi : count.toNat ≤ 4) :
    exec .writeKeys s =
      .next
        (if more.length = 11 * count.toNat then
          reply { kind := 0x06, tag := tag, payload := first :: count :: more }
            (writeKeys (first :: count :: more) { s with lnk := { s.lnk with inbound := rest } })
        else { s with lnk := s.lnk.answered rest 0x06 tag 0x11 [] }) := by
  have hcount : byteAt (first :: count :: more) 1 = count.toNat := rfl
  have hlegal : ¬ (!keyCountLegal count.toNat) = true := by simp [keyCountLegal_iff.mpr ⟨hlo, hhi⟩]
  have hlen : (first :: count :: more).length = 2 + 11 * count.toNat ↔ more.length = 11 * count.toNat := by
    rw [List.length_cons, List.length_cons]; omega
  rw [exec_writeKeys_of_offers ho, serveWriteKeys, if_neg (by simp)]
  simp only [hcount, if_neg hlegal, hlen]
  rfl

end

/-- Settles O50: each KIND's command takes one LEN (`TakesLength`), and WriteKeys judges its count before its LEN. -/
theorem unknownKindOrWrongLengthIsRefused : Obligations.UnknownKindOrWrongLengthIsRefused := by
  intro s kind tag payload rest ho
  refine ⟨exec_unknownRequest ho, fun i len hmem => (takesLength_of_mem_fixedLengths hmem).refuses ho, ?_⟩
  rintro rfl
  refine ⟨exec_writeKeys_of_short ho, ?_⟩
  rintro first count more rfl
  exact ⟨exec_writeKeys_of_illegal_count ho, fun hlo hhi hne => by rw [exec_writeKeys_of_legal_count ho hlo hhi, if_neg hne]⟩

end Sys2Proof.Machine
end

section
/-! ## ReadKeys, ReadSection and ReadLayer (R77, R84, R102) -/

namespace Sys2Proof.Machine

variable {s : State} {kind tag : Byte} {p : List Byte} {rest : List Frame} {len : Nat}
  {owner : List Byte → State → Answer} {status : Status} {data : List Byte}

/-- A request whose owner changes nothing changes the link alone. -/
theorem serve_of_unchanged (ho : s.offers kind tag p rest) (hl : p.length = len)
    (ha : owner p { s with lnk := { s.lnk with inbound := rest } } =
      { state := { s with lnk := { s.lnk with inbound := rest } }, status := status, data := data }) :
    serve kind len owner s =
      .next { s with lnk := s.lnk.answered rest kind tag (BitVec.ofNat 8 (statusCode status)) data } := by
  rw [serve_of_offers ho hl, ha]
  exact congrArg _ reply_unchanged

/-- A small number is its byte's value. -/
theorem toNat_byte {n : Nat} (h : n < 256) : (BitVec.ofNat 8 n).toNat = n :=
  by rw [BitVec.toNat_ofNat, Nat.mod_eq_of_lt h]

/-! ### ReadKeys (R77) -/

section
variable {first count : Byte}

theorem readKeys_of_legal (hlo : 1 ≤ count.toNat) (hhi : count.toNat ≤ 4) (hspan : first.toNat + count.toNat ≤ 192) :
    readKeys [first, count] s =
      { state := s, status := .done
        data := first :: count :: ((s.imap.toList.drop first.toNat).take count.toNat).flatMap KeyEntry.bytes } :=
  if_pos (by simpa [keyCountLegal, byteAt] using ⟨⟨hlo, hhi⟩, hspan⟩)

theorem readKeys_of_illegal (h : count.toNat = 0 ∨ 4 < count.toNat ∨ 192 < first.toNat + count.toNat) :
    readKeys [first, count] s = { state := s, status := .refusedValue, data := [first, count] } := by
  refine if_neg ?_
  simp only [keyCountLegal, byteAt, List.getD_cons_zero, List.getD_cons_succ, Bool.and_eq_true, decide_eq_true_eq]
  omega

end

/-! ### ReadSection (R84) -/

theorem readSection_of_number {b : Byte} {n : Fin 8} (h : b.toNat = n.val) :
    readSection [b] s =
      { state := s, status := .done
        data := b :: (s.scn.records[n].bytes ++ [BitVec.ofNat 8 s.scn.readiness[n].code]) } := by
  obtain ⟨n, hn⟩ := n
  cases h
  exact dif_pos hn

theorem readSection_of_illegal {b : Byte} (h : 7 < b.toNat) :
    readSection [b] s = { state := s, status := .refusedValue, data := [b] } :=
  dif_neg (Nat.not_lt.mpr h)

/-- The byte of a readiness (R181). -/
theorem readiness_byte (r : Readiness) :
    BitVec.ofNat 8 r.code = match r with | .off => 0 | .settling _ => 1 | .ready => 2 := by
  cases r <;> rfl

/-! ### ReadLayer (R102) -/

section
variable {b c : Byte} {n : Fin 8}

/-- The byte of a REVOICE flag (R181). -/
theorem bit_byte (x : Bool) : BitVec.ofNat 8 (bitCode x) = if x then 1 else 0 := by
  cases x <;> rfl

/-- The byte of an active preset (R181). -/
theorem preset_byte (q : Option (Fin 16)) :
    BitVec.ofNat 8 (presetCode q) = (q.map fun p => BitVec.ofNat 8 p.val).getD 0xFF := by
  cases q <;> rfl

theorem readLayer_of_stored {q : Fin 16} (hb : b.toNat = q.val) (hc : c.toNat = n.val) :
    readLayer [b, c] s =
      { state := s, status := .done
        data := b :: c :: (s.reg.store[q].layers[n].bytes ++ [if s.reg.store[q].revoice then 1 else 0]) } := by
  obtain ⟨q, hq⟩ := q
  obtain ⟨n, hn⟩ := n
  cases hb
  cases hc
  rw [← bit_byte, readLayer, dif_pos (show byteAt [b, c] 1 < 8 from hn), dif_pos (show byteAt [b, c] 0 < 16 from hq)]
  rfl

theorem readLayer_of_active (hc : c.toNat = n.val) :
    readLayer [16, c] s =
      { state := s, status := .done
        data := 16 :: c :: (s.reg.active[n].bytes ++
          [(s.reg.activePreset.map fun p => BitVec.ofNat 8 p.val).getD 0xFF]) } := by
  obtain ⟨n, hn⟩ := n
  cases hc
  rw [← preset_byte, readLayer, dif_pos (show byteAt [16, c] 1 < 8 from hn)]
  rfl

theorem readLayer_of_illegal (h : 16 < b.toNat ∨ 7 < c.toNat) :
    readLayer [b, c] s = { state := s, status := .refusedValue, data := [b, c] } := by
  have hpreset : byteAt [b, c] 0 = b.toNat := rfl
  have hlayer : byteAt [b, c] 1 = c.toNat := rfl
  rw [readLayer]
  split
  · rw [dif_neg (by omega), if_neg (by omega)]
    rfl
  · rfl

end

/-- Settles O30: each owner leaves the state, and the equation of its case gives the data. -/
theorem readRequestsAnswerTheRecords : Obligations.ReadRequestsAnswerTheRecords := by
  intro s tag rest
  have hkeys : exec .readKeys s = serve 0x07 2 readKeys s := rfl
  have hsection : exec .readSection s = serve 0x09 1 readSection s := rfl
  have hlayer : exec .readLayer s = serve 0x10 2 readLayer s := rfl
  rw [hkeys, hsection, hlayer]
  refine ⟨fun first count hlo hhi hspan ho => ?_, fun first count h ho => ?_, fun n ho => ?_, fun n h ho => ?_,
    fun q n ho => ?_, fun n ho => ?_, fun b c h ho => ?_⟩
  · have hfirst : (BitVec.ofNat 8 first.val).toNat = first.val := toNat_byte (by omega)
    have hcount : (BitVec.ofNat 8 count).toNat = count := toNat_byte (by omega)
    rw [serve_of_unchanged (len := 2) ho rfl (readKeys_of_legal (by omega) (by omega) (by omega)), hfirst, hcount]
    rfl
  · exact serve_of_unchanged ho rfl (readKeys_of_illegal h)
  · rw [serve_of_unchanged (len := 1) ho rfl (readSection_of_number (toNat_byte (by omega))), readiness_byte]
    rfl
  · exact serve_of_unchanged ho rfl (readSection_of_illegal h)
  · exact serve_of_unchanged ho rfl (readLayer_of_stored (toNat_byte (by omega)) (toNat_byte (by omega)))
  · exact serve_of_unchanged ho rfl (readLayer_of_active (toNat_byte (by omega)))
  · exact serve_of_unchanged ho rfl (readLayer_of_illegal h)

end Sys2Proof.Machine
end

section
/-! ## WriteKeys (R73, R74, R75) -/

namespace Sys2Proof.Machine

/-! ### Codes and pitch sets (R74, R181) -/

theorem classOfCode_eq_some {n : Nat} {c : KeyClass} : classOfCode n = some c ↔ c.code = n := by
  constructor
  · intro h
    unfold classOfCode at h
    split at h <;> cases h <;> rfl
  · rintro rfl
    cases c <;> rfl

theorem conditionOfCode_eq_some {n : Nat} {c : Condition} : conditionOfCode n = some c ↔ c.code = n := by
  constructor
  · intro h
    unfold conditionOfCode at h
    split at h <;> cases h <;> rfl
  · rintro rfl
    rcases c with _ | _ | _ | _ <;> rfl

theorem pitchSetOf_eq_some {len : Nat} {bytes : List Byte} {set : List Nat} :
    pitchSetOf len bytes = some set ↔
      len ≤ 4 ∧ (∀ p ∈ bytes.take len, p.toNat ≤ 127) ∧ (bytes.take len).map BitVec.toNat = set := by
  unfold pitchSetOf
  dsimp only
  by_cases hlen : 4 < len
  · rw [if_pos hlen]
    exact ⟨nofun, fun h => absurd h.1 (Nat.not_le.mpr hlen)⟩
  · rw [if_neg hlen, Option.ite_none_right_eq_some]
    simp only [List.map_take, List.all_eq_true, decide_eq_true_eq, Option.some.injEq, Nat.not_lt.mp hlen, true_and]
    simp only [← List.map_take, List.forall_mem_map]

/-! ### Records (R73, R74) -/

/-- A record's entry, field by field. -/
theorem keyEntryOf_eq_some {r : List Byte} {e : KeyEntry} :
    keyEntryOf r = some e ↔
      classOfCode (byteAt r 0 % 16) = some e.cls ∧
        pitchSetOf (byteAt r 1 / 16) ((r.drop 2).take 4) = some e.push ∧
        pitchSetOf (byteAt r 1 % 16) ((r.drop 6).take 4) = some e.pull ∧
        (e.cls = .register → conditionOfCode (byteAt r 0 / 16) = some e.condition ∧ e.preset.val = byteAt r 10) ∧
        (e.cls ≠ .register → e.condition = .immediate ∧ e.preset = 0) := by
  unfold keyEntryOf
  simp only [Option.bind_eq_bind, Option.bind_eq_some_iff]
  constructor
  · rintro ⟨cls, hcls, push, hpush, pull, hpull, h⟩
    split at h
    · rename_i hreg
      simp only [Option.bind_eq_some_iff] at h
      obtain ⟨condition, hcond, h⟩ := h
      split at h <;> cases h
      exact ⟨hcls, hpush, hpull, fun _ => ⟨hcond, rfl⟩, fun hne => absurd hreg hne⟩
    · rename_i hreg
      cases h
      exact ⟨hcls, hpush, hpull, fun he => absurd he hreg, fun _ => ⟨rfl, rfl⟩⟩
  · obtain ⟨cls, push, pull, preset, condition⟩ := e
    rintro ⟨hcls, hpush, hpull, hregister, hother⟩
    refine ⟨cls, hcls, push, hpush, pull, hpull, ?_⟩
    by_cases hreg : cls = .register
    · obtain ⟨hcond, hpreset⟩ := hregister hreg
      dsimp only at hcond hpreset
      rw [if_pos hreg, hcond]
      simp [← hpreset]
    · obtain ⟨rfl, rfl⟩ := hother hreg
      rw [if_neg hreg]

theorem KeyClass.code_le (c : KeyClass) : c.code ≤ 4 := by cases c <;> decide

theorem KeyClass.exists_code {n : Nat} (h : n ≤ 4) : ∃ c : KeyClass, c.code = n := by
  interval_cases n
  exacts [⟨.unused, rfl⟩, ⟨.treble, rfl⟩, ⟨.bassSingle, rfl⟩, ⟨.bassChord, rfl⟩, ⟨.register, rfl⟩]

theorem KeyClass.code_eq_four {c : KeyClass} : c.code = 4 ↔ c = .register := by cases c <;> decide

theorem Condition.code_le (c : Condition) : c.code ≤ 3 := by rcases c with _ | _ | _ | _ <;> decide

theorem Condition.exists_code {n : Nat} (h : n ≤ 3) : ∃ c : Condition, c.code = n := by
  interval_cases n
  exacts [⟨.immediate, rfl⟩, ⟨.next .reversal, rfl⟩, ⟨.next .beat, rfl⟩, ⟨.next .bar, rfl⟩]

/-- What a record says of its entry, in the codes of the model. -/
theorem entryReads_iff {r : List Byte} {e : KeyEntry} :
    EntryReads r e ↔
      e.cls.code = byteAt r 0 % 16 ∧ e.push = (((r.drop 2).take 4).take (byteAt r 1 / 16)).map BitVec.toNat ∧
        e.pull = (((r.drop 6).take 4).take (byteAt r 1 % 16)).map BitVec.toNat ∧
        (e.cls = .register → e.condition.code = byteAt r 0 / 16 ∧ e.preset.val = byteAt r 10) ∧
        (e.cls ≠ .register → e.condition = .immediate ∧ e.preset = 0) := by
  obtain ⟨cls, push, pull, preset, condition⟩ := e
  rcases condition with _ | _ | _ | _ <;> exact Iff.rfl

/-- WriteKeys takes a record exactly when it is legal, and what it takes is the entry that the record stands for (R73, R74). -/
theorem keyEntryOf_eq_some_iff {r : List Byte} {e : KeyEntry} :
    keyEntryOf r = some e ↔ RecordLegal r ∧ EntryReads r e := by
  rw [keyEntryOf_eq_some, classOfCode_eq_some, pitchSetOf_eq_some, pitchSetOf_eq_some, conditionOfCode_eq_some,
    entryReads_iff]
  constructor
  · rintro ⟨hcls, ⟨hpush, hpushes, hpushEq⟩, ⟨hpull, hpulls, hpullEq⟩, hregister, hother⟩
    refine ⟨⟨hcls ▸ e.cls.code_le, hpush, hpull, hpushes, hpulls, fun hfour => ?_⟩, hcls, hpushEq.symm, hpullEq.symm,
      hregister, hother⟩
    obtain ⟨hcond, hpreset⟩ := hregister (KeyClass.code_eq_four.mp (hcls.trans hfour))
    exact ⟨hcond ▸ e.condition.code_le, hpreset.symm.trans_le (Nat.le_of_lt_succ e.preset.isLt)⟩
  · rintro ⟨⟨_, hpush, hpull, hpushes, hpulls, _⟩, hcls, hpushEq, hpullEq, hfields⟩
    exact ⟨hcls, ⟨hpush, hpushes, hpushEq.symm⟩, ⟨hpull, hpulls, hpullEq.symm⟩, hfields⟩

/-- A legal record stands for some entry. -/
theorem exists_entryReads {r : List Byte} (h : RecordLegal r) : ∃ e, EntryReads r e := by
  obtain ⟨hcls, _, _, _, _, hregister⟩ := h
  obtain ⟨cls, hcode⟩ := KeyClass.exists_code hcls
  simp only [entryReads_iff]
  by_cases hreg : cls = .register
  · obtain ⟨hcond, hpreset⟩ := hregister (hcode ▸ KeyClass.code_eq_four.mpr hreg)
    obtain ⟨condition, hcond⟩ := Condition.exists_code hcond
    exact ⟨⟨cls, _, _, ⟨byteAt r 10, Nat.lt_succ_of_le hpreset⟩, condition⟩, hcode, rfl, rfl, fun _ => ⟨hcond, rfl⟩,
      fun hne => absurd hreg hne⟩
  · exact ⟨⟨cls, _, _, 0, .immediate⟩, hcode, rfl, rfl, fun he => absurd he hreg, fun _ => ⟨rfl, rfl⟩⟩

/-! ### Entries as records (R77, R181) -/

/-- A set of at most four pitches of at most 127 reads back from its four positions. -/
theorem take_pitchBytes {set : List Nat} (hlen : set.length ≤ 4) (hle : ∀ p ∈ set, p ≤ 127) :
    ((pitchBytes set).take set.length).map BitVec.toNat = set := by
  refine List.ext_getElem (by simp [pitchBytes, hlen]) fun i _ hi => ?_
  have hpitch : set[i] < 256 := Nat.lt_succ_of_le ((hle _ (List.getElem_mem hi)).trans (by decide))
  simp [pitchBytes, hi, Nat.mod_eq_of_lt hpitch]

theorem pitchSetOf_pitchBytes {set : List Nat} (hlen : set.length ≤ 4) (hle : ∀ p ∈ set, p ≤ 127) :
    pitchSetOf set.length (pitchBytes set) = some set := by
  have hback := take_pitchBytes hlen hle
  refine pitchSetOf_eq_some.mpr ⟨hlen, fun p hp => ?_, hback⟩
  exact hle _ (hback ▸ List.mem_map_of_mem hp)

theorem KeyEntry.bytes_length (e : KeyEntry) : e.bytes.length = 11 := rfl

/-- The parts of a byte made of two four-bit fields. -/
theorem fourBit_fields {hi lo : Nat} (h : lo ≤ 4) : (hi * 16 + lo) / 16 = hi ∧ (hi * 16 + lo) % 16 = lo := by omega

/-- A legal entry reads back from its record. -/
theorem keyEntryOf_bytes {e : KeyEntry} (h : KeyEntryLegal e) : keyEntryOf e.bytes = some e := by
  obtain ⟨hpush, hpull, hpushes, hpulls, hother⟩ := h
  have hcls := e.cls.code_le
  have hcond := e.condition.code_le
  have hpreset := e.preset.isLt
  have h0 : byteAt e.bytes 0 = e.condition.code * 16 + e.cls.code := toNat_byte (by omega)
  have h1 : byteAt e.bytes 1 = e.push.length * 16 + e.pull.length := toNat_byte (by omega)
  have h10 : byteAt e.bytes 10 = e.preset.val := toNat_byte (by omega)
  obtain ⟨hcondEq, hclsEq⟩ := fourBit_fields (hi := e.condition.code) hcls
  obtain ⟨hpushEq, hpullEq⟩ := fourBit_fields (hi := e.push.length) hpull
  rw [keyEntryOf_eq_some, h0, h1, h10, hcondEq, hclsEq, hpushEq, hpullEq, classOfCode_eq_some, conditionOfCode_eq_some]
  exact ⟨rfl, pitchSetOf_pitchBytes hpush hpushes, pitchSetOf_pitchBytes hpull hpulls, fun _ => ⟨rfl, rfl⟩,
    fun hne => (hother hne).symm⟩

/-! ### The records of a payload, and the entries written (R74, R75) -/

/-- The records of a payload are taken as these entries, one by one. -/
abbrev TakenAs (recs : List (List Byte)) (es : List KeyEntry) : Prop :=
  List.Forall₂ (fun r e => keyEntryOf r = some e) recs es

/-- Each record is read from its own 11 bytes. -/
theorem keyEntriesOf_flatten {recs : List (List Byte)} {es : List KeyEntry} (h : ∀ r ∈ recs, r.length = 11) :
    keyEntriesOf recs.length recs.flatten = some es ↔ TakenAs recs es := by
  induction recs generalizing es with
  | nil => simp [keyEntriesOf, eq_comm]
  | cons r recs ih =>
    rw [List.forall_mem_cons] at h
    obtain ⟨hr, hrecs⟩ := h
    simp only [List.length_cons, List.flatten_cons, keyEntriesOf, List.take_left' hr, List.drop_left' hr,
      Option.bind_eq_bind, Option.bind_eq_some_iff, ih hrecs, List.forall₂_cons_left_iff, Option.some.injEq]
    constructor
    · rintro ⟨e, he, es', hes, rfl⟩
      exact ⟨e, es', he, hes, rfl⟩
    · rintro ⟨e, es', he, hes, rfl⟩
      exact ⟨e, he, es', hes, rfl⟩

/-- A payload with a record that is not legal gives no entries. -/
theorem keyEntriesOf_of_illegal {recs : List (List Byte)} (h : ∀ r ∈ recs, r.length = 11)
    (hillegal : ∃ r ∈ recs, ¬ RecordLegal r) : keyEntriesOf recs.length recs.flatten = none := by
  refine Option.eq_none_iff_forall_ne_some.mpr fun es hes => ?_
  simp only [keyEntriesOf_flatten h, TakenAs, keyEntryOf_eq_some_iff, List.forall₂_and_left] at hes
  obtain ⟨hlegal, _⟩ := hes
  obtain ⟨r, hr, hnot⟩ := hillegal
  exact hnot (hlegal r hr)

/-- Legal records are all taken. -/
theorem exists_entries {recs : List (List Byte)} (h : ∀ r ∈ recs, RecordLegal r) :
    ∃ es, TakenAs recs es := by
  induction recs with
  | nil => exact ⟨[], .nil⟩
  | cons r recs ih =>
    rw [List.forall_mem_cons] at h
    obtain ⟨hr, hrecs⟩ := h
    obtain ⟨e, he⟩ := exists_entryReads hr
    obtain ⟨es, hes⟩ := ih hrecs
    exact ⟨e :: es, .cons (keyEntryOf_eq_some_iff.mpr ⟨hr, he⟩) hes⟩

section
variable {first : Nat} {es : List KeyEntry} {m : Vector KeyEntry 192} {k : Fin 192}

theorem writeEntries_getElem :
    (writeEntries first es m)[k] = if first ≤ k.val then es.getD (k.val - first) m[k] else m[k] := by
  simp [writeEntries]

theorem writeEntries_getElem_of_inside {e : KeyEntry} (hk : first ≤ k.val) (he : es[k.val - first]? = some e) :
    (writeEntries first es m)[k] = e := by
  rw [writeEntries_getElem, if_pos hk, List.getD_eq_getElem?_getD, he, Option.getD_some]

theorem writeEntries_getElem_of_outside (h : k.val < first ∨ first + es.length ≤ k.val) :
    (writeEntries first es m)[k] = m[k] := by
  rw [writeEntries_getElem]
  split
  · exact List.getD_eq_default _ _ (by omega)
  · rfl

end

/-- The record at a place in the payload is taken as the entry at that place. -/
theorem exists_entry_of_record {recs : List (List Byte)} {es : List KeyEntry} {r : List Byte} {i : Nat}
    (hes : TakenAs recs es) (hr : recs[i]? = some r) :
    ∃ e, es[i]? = some e ∧ EntryReads r e := by
  obtain ⟨hi, rfl⟩ := List.getElem?_eq_some_iff.mp hr
  have hi' : i < es.length := hes.length_eq ▸ hi
  exact ⟨es[i], List.getElem?_eq_getElem hi', (keyEntryOf_eq_some_iff.mp (hes.get hi hi')).2⟩

/-! ### The request (R74, R75) -/

section
variable {s : State} {first count : Byte} {more : List Byte}

/-- Whether the records give entries and whether the span ends by key 191 decide a WriteKeys. -/
theorem writeKeys_cons :
    writeKeys (first :: count :: more) s =
      (keyEntriesOf count.toNat more).elim { state := s, status := .refusedValue, data := [first, count] } fun es =>
        if first.toNat + count.toNat ≤ 192 then
          { state := s.withImap (writeEntries first.toNat es s.imap), status := .done, data := [first, count] }
        else { state := s, status := .refusedValue, data := [first, count] } := by
  have hpayload : (first :: count :: more).drop 2 = more := rfl
  unfold writeKeys
  rw [hpayload]
  dsimp only
  cases h : keyEntriesOf count.toNat more <;> simp [h, byteAt]

theorem writeKeys_of_refused (h : keyEntriesOf count.toNat more = none ∨ 192 < first.toNat + count.toNat) :
    writeKeys (first :: count :: more) s = { state := s, status := .refusedValue, data := [first, count] } := by
  rw [writeKeys_cons]
  rcases h with hnone | hspan
  · rw [hnone, Option.elim_none]
  · simp only [if_neg (Nat.not_le.mpr hspan)]
    cases keyEntriesOf count.toNat more <;> rfl

theorem writeKeys_of_taken {es : List KeyEntry} (hes : keyEntriesOf count.toNat more = some es)
    (hspan : first.toNat + count.toNat ≤ 192) :
    writeKeys (first :: count :: more) s =
      { state := s.withImap (writeEntries first.toNat es s.imap), status := .done, data := [first, count] } := by
  rw [writeKeys_cons, hes, Option.elim_some, if_pos hspan]

end

section
variable {s : State} {tag first : Byte} {recs : List (List Byte)} {rest : List Frame}
  (hlo : 1 ≤ recs.length) (hhi : recs.length ≤ 4) (hlen : ∀ r ∈ recs, r.length = 11)
  (ho : s.offers 0x06 tag (first :: BitVec.ofNat 8 recs.length :: recs.flatten) rest)
include hlo hhi hlen ho

/-- A WriteKeys of one to four whole records has the LEN of its count, and goes to the map. -/
theorem exec_writeKeys_of_records :
    exec .writeKeys s =
      .next (reply { kind := 0x06, tag := tag, payload := first :: BitVec.ofNat 8 recs.length :: recs.flatten }
        (writeKeys (first :: BitVec.ofNat 8 recs.length :: recs.flatten) { s with lnk := { s.lnk with inbound := rest } })) := by
  have hcount : (BitVec.ofNat 8 recs.length).toNat = recs.length := toNat_byte (by omega)
  have hflat : recs.flatten.length = 11 * (BitVec.ofNat 8 recs.length).toNat := by
    rw [hcount, List.length_flatten, List.map_congr_left hlen]
    simp [Nat.mul_comm]
  rw [exec_writeKeys_of_legal_count ho (by omega) (by omega), if_pos hflat]

/-- A record that is not legal, or a span beyond key 191, is refused for its value (R74). -/
theorem exec_writeKeys_of_refused (h : (∃ r ∈ recs, ¬ RecordLegal r) ∨ 192 < first.toNat + recs.length) :
    exec .writeKeys s =
      .next { s with lnk := s.lnk.answered rest 0x06 tag 0x12 [first, BitVec.ofNat 8 recs.length] } := by
  have hcount : (BitVec.ofNat 8 recs.length).toNat = recs.length := toNat_byte (by omega)
  rw [exec_writeKeys_of_records hlo hhi hlen ho,
    writeKeys_of_refused (by rw [hcount]; exact h.imp_left (keyEntriesOf_of_illegal hlen))]
  exact congrArg _ reply_unchanged

/-- Records that are all taken, of a span that ends by key 191, are written (R75). -/
theorem exec_writeKeys_of_taken {es : List KeyEntry} (hes : TakenAs recs es)
    (hspan : first.toNat + recs.length ≤ 192) :
    exec .writeKeys s =
      .next { s with
        imap := writeEntries first.toNat es s.imap
        lnk := s.lnk.answered rest 0x06 tag 0x00 [first, BitVec.ofNat 8 recs.length] } := by
  have hcount : (BitVec.ofNat 8 recs.length).toNat = recs.length := toNat_byte (by omega)
  rw [exec_writeKeys_of_records hlo hhi hlen ho,
    writeKeys_of_taken (by rw [hcount]; exact (keyEntriesOf_flatten hlen).mpr hes) (by rw [hcount]; exact hspan)]
  exact congrArg _ (reply_withImap _)

end

/-- Legal entries are the entries of their own records. -/
theorem takenAs_bytes {es : List KeyEntry} (h : ∀ e ∈ es, KeyEntryLegal e) :
    TakenAs (es.map KeyEntry.bytes) es := by
  rw [TakenAs, List.forall₂_map_left_iff, List.forall₂_same]
  exact fun e he => keyEntryOf_bytes (h e he)

/-- Settles O29: a payload is its records of 11 bytes, each legal exactly when it gives its entry (`keyEntryOf_eq_some_iff`); the
first half is the case of the records that legal entries have (`keyEntryOf_bytes`). -/
theorem writeKeysReplacesTheEntries : Obligations.WriteKeysReplacesTheEntries := by
  refine ⟨fun s tag first es rest hlo hhi hlegal ho => ?_, fun s tag first recs rest hlo hhi hlen ho => ?_⟩
  · have hcount : (es.map KeyEntry.bytes).length = es.length := List.length_map _
    have hlen : ∀ r ∈ es.map KeyEntry.bytes, r.length = 11 := by
      rw [List.forall_mem_map]
      exact fun e _ => e.bytes_length
    rw [List.flatMap_def] at ho
    rw [← hcount] at hlo hhi ho ⊢
    refine ⟨fun hspan => ?_, fun hspan => exec_writeKeys_of_refused hlo hhi hlen ho (.inr hspan)⟩
    exact ⟨_, exec_writeKeys_of_taken hlo hhi hlen ho (takenAs_bytes hlegal) hspan, rfl, fun k =>
      ⟨fun e hk he => writeEntries_getElem_of_inside hk he,
        fun hout => writeEntries_getElem_of_outside (hcount ▸ hout)⟩⟩
  · refine ⟨exec_writeKeys_of_refused hlo hhi hlen ho, fun hlegal hspan => ?_⟩
    obtain ⟨es, hes⟩ := exists_entries hlegal
    refine ⟨_, exec_writeKeys_of_taken hlo hhi hlen ho hes hspan, rfl, fun k => ⟨fun r hk hr => ?_, fun hout => ?_⟩⟩
    · obtain ⟨e, he, hreads⟩ := exists_entry_of_record hes hr
      rwa [writeEntries_getElem_of_inside hk he]
    · exact writeEntries_getElem_of_outside (hes.length_eq ▸ hout)

end Sys2Proof.Machine
end

section
/-! ## Commands that leave alone what sounds -/

namespace Sys2Proof.Machine

/-- What sounds stands: the two tables, the readiness and records of the sections, the cut state and the accent window are the same,
nothing becomes pending, and every new entry is a general report. -/
structure SoundStands (s t : State) : Prop where
  val : t.val = s.val
  cut : t.scn.cut = s.scn.cut
  readiness : t.scn.readiness = s.scn.readiness
  records : t.scn.records = s.scn.records
  slot : s.reg.slot = none → t.reg.slot = none
  accent : t.exu.accentCount = s.exu.accentCount
  entries : ∀ e ∈ t.evq.entries, e ∈ s.evq.entries ∨ e.report.section? = none

section
variable {s t u : State}

theorem SoundStands.trans (h : SoundStands s t) (k : SoundStands t u) : SoundStands s u where
  val := k.val.trans h.val
  cut := k.cut.trans h.cut
  readiness := k.readiness.trans h.readiness
  records := k.records.trans h.records
  slot := k.slot ∘ h.slot
  accent := k.accent.trans h.accent
  entries e he := (k.entries e he).elim (h.entries e) .inr

/-- The blocks that hold what sounds are the same. -/
theorem SoundStands.of_blocks (hval : t.val = s.val) (hscn : t.scn = s.scn) (hreg : t.reg = s.reg) (hexu : t.exu = s.exu)
    (hevq : t.evq.entries = s.evq.entries) : SoundStands s t where
  val := hval
  cut := by rw [hscn]
  readiness := by rw [hscn]
  records := by rw [hscn]
  slot h := hreg ▸ h
  accent := by rw [hexu]
  entries _ he := .inl (hevq ▸ he)

theorem SoundStands.refl (s : State) : SoundStands s s := .of_blocks rfl rfl rfl rfl rfl

theorem SoundStands.withKsc (s : State) (x : Scanner) : SoundStands s (s.withKsc x) := .of_blocks rfl rfl rfl rfl rfl
theorem SoundStands.withImap (s : State) (x : Vector KeyEntry 192) : SoundStands s (s.withImap x) :=
  .of_blocks rfl rfl rfl rfl rfl
theorem SoundStands.withBlu (s : State) (x : Bellows) : SoundStands s (s.withBlu x) := .of_blocks rfl rfl rfl rfl rfl
theorem SoundStands.withTck (s : State) (x : Clock) : SoundStands s (s.withTck x) := .of_blocks rfl rfl rfl rfl rfl
theorem SoundStands.withLnk (s : State) (x : Link) : SoundStands s (s.withLnk x) := .of_blocks rfl rfl rfl rfl rfl
theorem SoundStands.withStu (s : State) (x : StatusUnit) : SoundStands s (s.withStu x) := .of_blocks rfl rfl rfl rfl rfl

/-- A change of the registration that leaves the slot. -/
theorem SoundStands.withReg {x : Registration} (h : x.slot = s.reg.slot) : SoundStands s (s.withReg x) :=
  { SoundStands.refl s with slot := fun hs => h.trans hs }

end

/-! ### General reports and flags -/

theorem offerGeneral_soundStands {r : Report} (hr : r.section? = none) (s : State) : SoundStands s (offerGeneral r s) := by
  rcases offerGeneral_cases r s with ⟨_, he⟩ | ⟨_, he⟩ <;> rw [he]
  · refine { SoundStands.refl s with entries := fun e he => ?_ }
    rcases mem_pushGeneral.mp he with rfl | he
    · exact .inr hr
    · exact .inl he
  · exact .refl s

theorem raiseFlag_soundStands (f : StickyFlag) (s : State) : SoundStands s (raiseFlag f s) := by
  rcases raiseFlag_cases f s with ⟨_, he⟩ | ⟨_, he⟩ <;> rw [he]
  · exact .withStu s _
  · exact (SoundStands.withStu s _).trans (offerGeneral_soundStands rfl _)

/-! ### Link Controller -/

theorem setReceiver_soundStands (r : Receiver) (s : State) : SoundStands s (setReceiver r s) := .withLnk s _

theorem disposeFrame_soundStands (f : Frame) (s : State) : SoundStands s (disposeFrame f s) := by
  unfold disposeFrame
  repeat' split
  · exact .refl s
  · exact raiseFlag_soundStands _ s
  · exact .withLnk s _

theorem hunt_soundStands (n : Nat) (bs : List Byte) (s : State) : SoundStands s (hunt n bs s) := by
  induction n generalizing bs s with
  | zero => exact setReceiver_soundStands _ s
  | succ n ih =>
    cases bs with
    | nil => exact setReceiver_soundStands _ s
    | cons b bs =>
      unfold hunt; dsimp only
      repeat' split
      · exact ih bs s
      · exact setReceiver_soundStands _ s
      · exact (raiseFlag_soundStands _ s).trans (ih _ _)
      · exact setReceiver_soundStands _ s
      · exact (disposeFrame_soundStands _ s).trans (ih _ _)
      · exact (raiseFlag_soundStands _ s).trans (ih _ _)

theorem abandon_soundStands (f : StickyFlag) (held : List Byte) (s : State) : SoundStands s (abandon f held s) :=
  (raiseFlag_soundStands f s).trans (hunt_soundStands _ _ _)

theorem completeFrame_soundStands (s : State) : SoundStands s (completeFrame s) := by
  unfold completeFrame
  repeat' split
  · exact .refl s
  · exact (disposeFrame_soundStands _ s).trans (setReceiver_soundStands _ _)
  · exact abandon_soundStands _ _ s
  · exact .refl s

theorem takeByte_soundStands (b : Byte) (low : Bool) (s : State) : SoundStands s (takeByte b low s) := by
  unfold takeByte; dsimp only
  repeat' split
  · exact setReceiver_soundStands _ s
  · exact .refl s
  · exact abandon_soundStands _ _ s
  · exact abandon_soundStands _ _ s
  · exact setReceiver_soundStands _ s

/-- The transmitter takes entries from the queue and adds none (R177). -/
theorem chooseFrame_soundStands (s : State) : SoundStands s (chooseFrame s) := by
  unfold chooseFrame
  repeat' split
  · exact .withLnk s _
  · exact { SoundStands.refl s with entries := fun e he => .inl (List.mem_of_mem_tail he) }
  · exact .refl s
  · exact .refl s

theorem takeWriteKeys_soundStands (s : State) : SoundStands s (takeWriteKeys s) := by
  obtain ⟨m, l, he⟩ := takeWriteKeys_frame s
  rw [he]; exact (SoundStands.withImap s m).trans (.withLnk _ l)

/-! ### Commands -/

section
variable {s t : State}

/-- A command whose effect leaves what sounds. -/
theorem SoundStands.whileRunning {effect : State → State} (he : whileRunning effect s = .next t)
    (stand : SoundStands s (effect s)) : SoundStands s t := whileRunning_keeps (.refl s) he stand

/-- A command that has its effect under a condition, and otherwise none. -/
theorem SoundStands.whileRunning_ite {c : State → Prop} [DecidablePred c] {f : State → State}
    (he : Machine.whileRunning (fun s => if c s then f s else s) s = .next t) (stand : SoundStands s (f s)) :
    SoundStands s t := by
  refine .whileRunning he ?_
  split
  · exact stand
  · exact .refl s

/-- A request whose owner leaves what sounds. -/
theorem SoundStands.serve {kind : Byte} {len : Nat} {owner : List Byte → State → Answer}
    (he : serve kind len owner s = .next t) (stand : ∀ p s, SoundStands s (owner p s).state) : SoundStands s t :=
  serve_keeps (.refl s) he (fun u l h => h.trans (.withLnk u l)) fun p u h => h.trans (stand p u)

theorem execScanStart_soundStands (he : execScanStart s = .next t) : SoundStands s t := .whileRunning_ite he (.withKsc s _)

theorem execScanBoundary_soundStands (he : execScanBoundary s = .next t) : SoundStands s t :=
  .whileRunning he (.withKsc s _)

theorem execReinitialisationWindowEnd_soundStands (he : execReinitialisationWindowEnd s = .next t) : SoundStands s t :=
  .whileRunning_ite he (.withKsc s _)

theorem execLastRealBeatAbsent_soundStands (he : execLastRealBeatAbsent s = .next t) : SoundStands s t :=
  .whileRunning_ite he (.withTck s _)

theorem execByteArrival_soundStands {b : Byte} {low : Bool} (he : execByteArrival b low s = .next t) : SoundStands s t :=
  .whileRunning he ((completeFrame_soundStands s).trans (takeByte_soundStands b low _))

theorem execGap_soundStands (he : execGap s = .next t) : SoundStands s t :=
  .whileRunning_ite he (abandon_soundStands _ _ s)

theorem execFrameComplete_soundStands (he : execFrameComplete s = .next t) : SoundStands s t :=
  .whileRunning he (completeFrame_soundStands s)

theorem execWriteKeys_soundStands (he : execWriteKeys s = .next t) : SoundStands s t :=
  .whileRunning he (takeWriteKeys_soundStands s)

theorem execTransmit_soundStands (he : execTransmit s = .next t) : SoundStands s t :=
  .whileRunning_ite he (chooseFrame_soundStands s)

theorem execClickLineSample_soundStands {a b : Bool} (he : execClickLineSample a b s = .next t) : SoundStands s t :=
  .whileRunning he (.withTck s _)

theorem execCalibrationEnd_soundStands (he : execCalibrationEnd s = .next t) : SoundStands s t := by
  refine .whileRunning he ?_
  split
  · exact (SoundStands.withBlu s _).trans (.withLnk _ _)
  · exact .refl s

theorem execBarEdge_soundStands (he : execBarEdge s = .next t) : SoundStands s t := by
  refine .whileRunning he ?_
  split
  · exact .withTck s _
  · exact .refl s

theorem execFrameSent_soundStands (he : execFrameSent s = .next t) : SoundStands s t := by
  refine .whileRunning he ?_
  split
  · exact .refl s
  · exact (SoundStands.withLnk s _).trans (chooseFrame_soundStands _)

/-- A frame taken from the inbound queue. -/
theorem SoundStands.withInbound (s : State) (rest : List Frame) :
    SoundStands s { s with lnk := { s.lnk with inbound := rest } } := .withLnk s _

theorem execUnknownRequest_soundStands (he : execUnknownRequest s = .next t) : SoundStands s t := by
  rcases takeRequest_cases he with rfl | ⟨f, rest, _, _, rfl⟩
  · exact .refl t
  · exact (SoundStands.withInbound s rest).trans (.withLnk _ _)

theorem execCalibrate_soundStands (he : execCalibrate s = .next t) : SoundStands s t := by
  rcases takeRequest_cases he with rfl | ⟨f, rest, _, _, rfl⟩
  · exact .refl t
  · split
    · exact ((SoundStands.withInbound s rest).trans (.withBlu _ _)).trans (.withLnk _ _)
    · exact (SoundStands.withInbound s rest).trans (.withLnk _ _)

theorem setScan_soundStands (p : List Byte) (s : State) : SoundStands s (setScan p s).state := by
  unfold setScan; split
  · exact .refl s
  · exact .withKsc s _

theorem readKeys_soundStands (p : List Byte) (s : State) : SoundStands s (readKeys p s).state := by
  unfold readKeys; dsimp only; split <;> exact .refl s

theorem readSection_soundStands (p : List Byte) (s : State) : SoundStands s (readSection p s).state := by
  unfold readSection; split <;> exact .refl s

theorem writeLayer_soundStands (p : List Byte) (s : State) : SoundStands s (writeLayer p s).state := by
  unfold writeLayer; dsimp only
  split
  · exact .refl s
  · split
    · exact .withReg rfl
    · exact .refl s

theorem readLayer_soundStands (p : List Byte) (s : State) : SoundStands s (readLayer p s).state := by
  unfold readLayer; dsimp only
  repeat' split
  all_goals exact .refl s

theorem setPresetFlags_soundStands (p : List Byte) (s : State) : SoundStands s (setPresetFlags p s).state := by
  unfold setPresetFlags
  split
  · exact .refl s
  · split
    · exact .withReg rfl
    · exact .refl s

theorem setExpression_soundStands (p : List Byte) (s : State) : SoundStands s (setExpression p s).state :=
  { SoundStands.refl s with accent := rfl }

theorem cancelPending_soundStands (p : List Byte) (s : State) : SoundStands s (cancelPending p s).state :=
  { SoundStands.refl s with slot := fun _ => rfl }

/-- A line sample that leaves the cut state. -/
theorem execCutLineSample_soundStands {b : Bool} (he : execCutLineSample b s = .next t) : SoundStands s t :=
  .whileRunning_ite he { SoundStands.refl s with }

end

/-- The commands that may work on what sounds: key events, samples, beats, cut, sections, voices, selections and resets. -/
def worksSound : Instr → Bool
  | .resetRelease _ _ _ | .scanCompletion _ | .sample _ | .beatEdge | .deadline | .cutEdge | .settleExpiry _
  | .releaseExpiry _ | .writeSection | .sectionReady | .cutRequest | .resume | .selectPreset | .reset => true
  | _ => false

/-- Every other command leaves it. -/
theorem exec_soundStands {i : Instr} {s t : State} (hi : worksSound i = false) (he : exec i s = .next t) :
    SoundStands s t := by
  cases i with
  | hardReset c => cases he; exact .of_blocks rfl rfl rfl rfl rfl
  | scanStart => exact execScanStart_soundStands he
  | scanBoundary => exact execScanBoundary_soundStands he
  | reinitialisationWindowEnd => exact execReinitialisationWindowEnd_soundStands he
  | calibrationEnd => exact execCalibrationEnd_soundStands he
  | barEdge => exact execBarEdge_soundStands he
  | lastRealBeatAbsent => exact execLastRealBeatAbsent_soundStands he
  | byteArrival b low => exact execByteArrival_soundStands he
  | gap => exact execGap_soundStands he
  | frameComplete => exact execFrameComplete_soundStands he
  | unknownRequest => exact execUnknownRequest_soundStands he
  | calibrate => exact execCalibrate_soundStands he
  | writeKeys => exact execWriteKeys_soundStands he
  | transmit => exact execTransmit_soundStands he
  | frameSent => exact execFrameSent_soundStands he
  | cutLineSample b => exact execCutLineSample_soundStands he
  | clickLineSample a b => exact execClickLineSample_soundStands he
  | setScan => exact .serve he setScan_soundStands
  | setBellows => exact .serve he fun _ s => .withBlu s _
  | setExpression => exact .serve he setExpression_soundStands
  | setClock => exact .serve he fun _ s => .withTck s _
  | readKeys => exact .serve he readKeys_soundStands
  | readSection => exact .serve he readSection_soundStands
  | cancelPending => exact .serve he cancelPending_soundStands
  | writeLayer => exact .serve he writeLayer_soundStands
  | readLayer => exact .serve he readLayer_soundStands
  | setPresetFlags => exact .serve he setPresetFlags_soundStands
  | status => exact .serve he fun _ s => .refl s
  | clearFlags => exact .serve he fun _ s => .withStu s _
  | _ => cases hi

/-- The passing of a tick leaves it. -/
theorem passTick_soundStands (s : State) : SoundStands s (passTick s) := by
  rcases passTick_cases s with ⟨_, _, he⟩ | ⟨_, he⟩ <;> rw [he]
  · exact .of_blocks rfl rfl rfl rfl rfl
  · exact .refl s

end Sys2Proof.Machine
end

section
/-! ## Silence in CUT -/

namespace Sys2Proof.Machine

/-- What silence asks of the part: no key held, no voice live, nothing pending, the accent window closed and only general reports
waiting (R45, R48, R93, R107, R131). -/
structure Silent (s : State) : Prop where
  held : s.val.held = []
  free : ∀ v : Fin 48, s.val.voices[v].state = .free
  slot : s.reg.slot = none
  accent : s.exu.accentCount = 0
  general : ∀ e ∈ s.evq.entries, e.report.section? = none

/-- The cut state stands, and in CUT silence is kept. -/
structure SilenceKept (s t : State) : Prop where
  cut : t.scn.cut = s.scn.cut
  silent : s.scn.cut = true → Silent s → Silent t

section
variable {s t u : State}

theorem silentInCut_iff : SilentInCut s ↔ (s.scn.cut = true → Silent s) :=
  forall_congr' fun _ => ⟨fun ⟨hheld, hfree, hslot, haccent, hgeneral⟩ => ⟨hheld, hfree, hslot, haccent, hgeneral⟩,
    fun h => ⟨h.held, h.free, h.slot, h.accent, h.general⟩⟩

theorem Silent.silentInCut (h : Silent s) : SilentInCut s := silentInCut_iff.mpr fun _ => h

/-- In NORMAL the law asks nothing. -/
theorem silentInCut_of_normal (h : s.scn.cut = false) : SilentInCut s := fun hcut =>
  Bool.noConfusion (h.symm.trans hcut)

theorem SilentInCut.of_kept (h : SilentInCut s) (hk : SilenceKept s t) : SilentInCut t :=
  silentInCut_iff.mpr fun hcut => hk.silent (hk.cut ▸ hcut) (silentInCut_iff.mp h (hk.cut ▸ hcut))

theorem SilenceKept.refl (s : State) : SilenceKept s s := ⟨rfl, fun _ => id⟩

theorem SilenceKept.trans (h : SilenceKept s t) (k : SilenceKept t u) : SilenceKept s u :=
  ⟨k.cut.trans h.cut, fun hcut hs => k.silent (h.cut.trans hcut) (h.silent hcut hs)⟩

/-- Where what sounds stands, silence is kept. -/
theorem SoundStands.silenceKept (h : SoundStands s t) : SilenceKept s t where
  cut := h.cut
  silent _ hs :=
    { held := h.val ▸ hs.held
      free := h.val ▸ hs.free
      slot := h.slot hs.slot
      accent := h.accent.trans hs.accent
      general := fun e he => (h.entries e he).elim (hs.general e) id }

/-- An operation that finds nothing to do in a silent CUT. -/
theorem SilenceKept.of_idle (hscn : t.scn = s.scn) (h : s.scn.cut = true → Silent s → t = s) : SilenceKept s t :=
  ⟨by rw [hscn], fun hcut hs => by rw [h hcut hs]; exact hs⟩

theorem PlayOnly.scn (h : PlayOnly s t) : t.scn = s.scn := by rw [PlayOnly] at h; rw [h]; rfl

theorem PlayOnly.silenceKept (hp : PlayOnly s t) (h : s.scn.cut = true → Silent s → t = s) : SilenceKept s t :=
  .of_idle hp.scn h

theorem LevelsOnly.silenceKept (hl : LevelsOnly s t) (h : s.scn.cut = true → Silent s → t = s) : SilenceKept s t :=
  .of_idle hl.scn h

/-- Work on the Expression Unit that leaves a closed accent window closed in CUT. -/
theorem SilenceKept.withExu {x : Expression} (h : s.scn.cut = true → s.exu.accentCount = 0 → x.accentCount = 0) :
    SilenceKept s (s.withExu x) :=
  ⟨rfl, fun hcut hs => { hs with accent := h hcut hs.accent }⟩

/-- Work on Section Control that leaves the cut state. -/
theorem SilenceKept.withScn {x : SectionControl} (h : x.cut = s.scn.cut) : SilenceKept s (s.withScn x) :=
  ⟨h, fun _ hs => { hs with }⟩

/-- No voice sounds in silence. -/
theorem Silent.soundingIn (h : Silent s) (n : Fin 8) : s.soundingIn n = 0 := by
  refine List.countP_eq_zero.mpr fun x hx => ?_
  obtain ⟨i, hi, rfl⟩ := Vector.mem_iff_getElem.mp (Vector.mem_toList_iff.mp hx)
  have hfree : s.val.voices[i].state = .free := h.free ⟨i, hi⟩
  simp [Voice.isSounding, hfree]

theorem Silent.heldEntry (h : Silent s) (k : Fin 192) : s.heldEntry k = none := by
  rw [State.heldEntry, h.held]; rfl

end

/-! ### Samples -/

section
variable {s t : State}

theorem forceStages_silenceKept (c : Int) (s : State) : SilenceKept s (forceStages c s) := by
  unfold forceStages; dsimp only; split
  · exact (raiseFlag_soundStands _ s).silenceKept.trans (.withExu fun _ h => h)
  · exact .withExu fun _ h => h

theorem accentCountdown_silenceKept (s : State) : SilenceKept s (accentCountdown s) :=
  .withExu fun _ h => by simp only [h]

/-- In CUT an accent leaves the window closed (R48). -/
theorem accentTest_silenceKept (s : State) : SilenceKept s (accentTest s) :=
  .withExu fun hcut h => by simp only [hcut, h, Bool.not_true, Bool.and_false, Bool.false_eq_true, if_false]

/-- In CUT no level is reported (R45). -/
theorem testDynamic_of_cut {n : Fin 8} (h : s.scn.cut = true) : testDynamic n s = s :=
  if_neg fun ⟨_, hnormal, _⟩ => Bool.noConfusion (h.symm.trans hnormal)

theorem testDynamics_silenceKept (s : State) : SilenceKept s (testDynamics s) :=
  foldl_keeps SilenceKept.refl (fun _ _ _ => .trans)
    (fun s n => (testDynamic_levelsOnly n s).silenceKept fun hcut _ => testDynamic_of_cut hcut) _ s

theorem takeLevels_silenceKept (s : State) : SilenceKept s (takeLevels s) := .withExu fun _ h => h

theorem expressionSample_silenceKept (c : Option Int) (s : State) : SilenceKept s (expressionSample c s) := by
  have hlevels : ∀ u, SilenceKept u (testDynamics (takeLevels u)) := fun u =>
    (takeLevels_silenceKept u).trans (testDynamics_silenceKept _)
  cases c with
  | none => exact (accentCountdown_silenceKept s).trans (hlevels _)
  | some c =>
    exact (((forceStages_silenceKept c s).trans (accentCountdown_silenceKept _)).trans (accentTest_silenceKept _)).trans
      (hlevels _)

theorem sensorTest_soundStands (raw : Int) (s : State) : SoundStands s (sensorTest raw s) := by
  rcases sensorTest_cases raw s with h | ⟨_, _, _, h⟩ | ⟨_, _, _, h⟩ | h <;> rw [h]
  case inl => exact (SoundStands.withBlu s _).trans (offerGeneral_soundStands rfl _)
  all_goals exact .withBlu s _

theorem clipCentring_soundStands (raw : Int) (s : State) : SoundStands s (clipCentring raw s) := by
  unfold clipCentring; split
  · exact .refl s
  · exact raiseFlag_soundStands _ s

theorem heardSample_silenceKept (raw : Int) (s : State) : SilenceKept s (heardSample raw s) :=
  ((clipCentring_soundStands raw s).trans (.withBlu _ _)).silenceKept.trans (expressionSample_silenceKept _ _)

/-- A reversal finds no key held and nothing pending (R93, R107). -/
theorem handReversal_silenceKept (d : Side) (s : State) : SilenceKept s (handReversal d s) :=
  (offerGeneral_soundStands rfl s).silenceKept.trans
    ((takeReversal_playOnly d _).silenceKept fun _ hs => takeReversal_of_silent hs.held hs.slot)

theorem processSample_silenceKept (raw : Int) (s : State) : SilenceKept s (processSample raw s) := by
  have hjudged : SilenceKept s (judgedSample raw s) :=
    ((SoundStands.withBlu s _).trans (sensorTest_soundStands raw _)).silenceKept
  refine hjudged.trans ?_
  cases h : (judgedSample raw s).blu.sensor with
  | fault => rw [processSample_of_fault h]; exact expressionSample_silenceKept none _
  | ok =>
    rw [processSample_of_ok h]
    rcases ordinarySample_cases raw (judgedSample raw s) with he | ⟨d, he⟩ <;> rw [he]
    · exact heardSample_silenceKept raw _
    · exact (heardSample_silenceKept raw _).trans (handReversal_silenceKept d _)

/-! ### Beats -/

theorem reportPhase_soundStands (p : ClockPhase) (s : State) : SoundStands s (reportPhase p s) := by
  unfold reportPhase; split
  · exact .refl s
  · exact offerGeneral_soundStands rfl s

/-- With nothing pending a beat commits nothing (R107). -/
theorem takeBeat_silenceKept (b : Bool) (s : State) : SilenceKept s (takeBeat b s) :=
  (takeBeat_playOnly b s).silenceKept fun _ hs => takeBeat_of_unmet fun c hc => by rw [hs.slot] at hc; cases hc

theorem beatEvent_silenceKept (p : ClockPhase) (c : Clock) (s : State) : SilenceKept s (beatEvent p c s) := by
  rw [beatEvent_eq_takeBeat]
  exact ((SoundStands.withTck s _).trans (reportPhase_soundStands p _)).silenceKept.trans (takeBeat_silenceKept _ _)

theorem acceptBeat_silenceKept (s : State) : SilenceKept s (acceptBeat s) := by
  unfold acceptBeat; split
  · exact .refl s
  · exact beatEvent_silenceKept _ _ s

theorem meetDeadline_silenceKept (s : State) : SilenceKept s (meetDeadline s) := by
  unfold meetDeadline; split
  · exact beatEvent_silenceKept _ _ s
  · exact ((SoundStands.withTck s _).trans (reportPhase_soundStands _ _)).silenceKept

/-! ### Key events -/

/-- In CUT a press is discarded (R93, R109). -/
theorem routePress_of_cut {k : Fin 192} (h : s.scn.cut = true) : routePress k s = s := by
  have hpress : press k s = s := if_pos h
  have hswitch : pressSwitch k s = s := if_pos h
  unfold routePress
  cases s.imap[k].cls <;> simp only [hpress, hswitch]

/-- With no key held a release finds none (R132). -/
theorem routeRelease_of_silent {k : Fin 192} (h : Silent s) : routeRelease k s = s := by
  rcases routeRelease_cases k s with he | ⟨_, he⟩ <;> rw [he]
  unfold release; rw [h.heldEntry]

theorem routeEvent_silenceKept (s : State) (e : KeyEvent) : SilenceKept s (routeEvent s e) := by
  refine (routeEvent_playOnly e s).silenceKept fun hcut hs => ?_
  unfold routeEvent; split
  · exact routePress_of_cut hcut
  · exact routeRelease_of_silent hs

theorem routeEvents_silenceKept (w : Option Nat) (es : List KeyEvent) (s : State) : SilenceKept s (routeEvents w es s) := by
  have hroute : ∀ (es : List KeyEvent) s, SilenceKept s (es.foldl routeEvent s) :=
    foldl_keeps SilenceKept.refl (fun _ _ _ => .trans) routeEvent_silenceKept
  cases w with
  | none => exact hroute es s
  | some n => exact ((hroute _ s).trans (takeWriteKeys_soundStands _).silenceKept).trans (hroute _ _)

theorem completeScan_silenceKept (r : Readings) (w : Option Nat) (s : State) : SilenceKept s (completeScan r w s) := by
  have hksc : ∀ k, SilenceKept s (s.withKsc k) := fun k => (SoundStands.withKsc s k).silenceKept
  unfold completeScan; split
  · exact hksc _
  · exact (hksc _).trans (routeEvents_silenceKept ..)
  · exact (hksc _).trans (routeEvents_silenceKept ..)

/-! ### Sections and selections -/

theorem setReadiness_silenceKept (n : Fin 8) (r : Readiness) (s : State) : SilenceKept s (setReadiness n r s) :=
  .withScn rfl

theorem setRecord_silenceKept (n : Fin 8) (r : SectionRecord) (s : State) : SilenceKept s (setRecord n r s) :=
  .withScn rfl

/-- In CUT a section that becomes READY is not reported (R47). -/
theorem becomeReady_silenceKept (n : Fin 8) (s : State) : SilenceKept s (becomeReady n s) := by
  have hreport : ∀ u, SilenceKept u (reportReady n u) := fun u =>
    (reportReady_levelsOnly n u).silenceKept fun hcut _ => if_pos hcut
  exact (setReadiness_silenceKept n _ s).trans (hreport _)

/-- With no voice live a section has none to end. -/
theorem endSection_of_silent {n : Fin 8} (h : Silent s) : endSection n s = s := by
  have hvoices : (s.val.voices.map fun x => if x.isReleasing && x.sect == n then x.freed else x) = s.val.voices := by
    refine Vector.ext fun i hi => ?_
    have hfree : s.val.voices[i].state = .free := h.free ⟨i, hi⟩
    simp [Voice.isReleasing, Voice.isFree, hfree]
  unfold endSection
  rw [h.soundingIn n]
  exact congrArg (fun voices => s.withVal { s.val with voices := voices }) hvoices

theorem declareOff_silenceKept (n : Fin 8) (s : State) : SilenceKept s (declareOff n s) := by
  have hset := setReadiness_silenceKept n .off s
  unfold declareOff; split
  · exact hset.trans ((endSection_notesOnly n _).play.silenceKept fun _ hs => endSection_of_silent hs)
  · exact hset
  · exact hset

theorem declareReady_silenceKept (n : Fin 8) (settle : Nat) (s : State) : SilenceKept s (declareReady n settle s) := by
  have hnot : SilenceKept s (if settle = 0 then becomeReady n s
      else setReadiness n (.settling (s.tick + BitVec.ofNat 32 (ticksOfMs settle))) s) := by
    split
    · exact becomeReady_silenceKept n s
    · exact setReadiness_silenceKept n _ s
  unfold declareReady; split
  · exact .refl s
  · exact hnot
  · exact hnot

theorem sectionReady_silenceKept (p : List Byte) (s : State) : SilenceKept s (sectionReady p s).state := by
  unfold sectionReady; dsimp only
  repeat' split
  · exact .refl s
  · exact declareReady_silenceKept _ _ s
  · exact declareOff_silenceKept _ s
  · exact .refl s

/-- With no voice SOUNDING no limit is exceeded. -/
theorem stealToLimit_of_silent {n : Fin 8} (h : Silent s) : stealToLimit n s = s := by
  rw [stealToLimit, h.soundingIn n, Nat.zero_sub]; rfl

theorem writeSection_silenceKept (p : List Byte) (s : State) : SilenceKept s (writeSection p s).state := by
  unfold writeSection; dsimp only
  split
  · split
    · exact (setRecord_silenceKept _ _ s).trans
        ((stealToLimit_notesOnly _ _).play.silenceKept fun _ hs => stealToLimit_of_silent hs)
    · exact .refl s
  · exact .refl s

/-- In CUT a selection is refused (R108). -/
theorem selectRequest_of_cut {p : List Byte} (h : s.scn.cut = true) : (selectRequest p s).state = s := by
  unfold selectRequest; dsimp only
  split
  · rfl
  · simp only [h, if_true]; split <;> rfl

theorem selectRequest_playOnly (p : List Byte) (s : State) : PlayOnly s (selectRequest p s).state := by
  rcases selectRequest_state p s with he | ⟨q, c, he⟩ <;> rw [he]
  · exact .refl s
  · exact select_playOnly q c _ s

theorem selectRequest_silenceKept (p : List Byte) (s : State) : SilenceKept s (selectRequest p s).state :=
  (selectRequest_playOnly p s).silenceKept fun hcut _ => selectRequest_of_cut hcut

/-! ### Cut, Resume and resets -/

/-- After a cut the part is silent (R91, R143, R156). -/
theorem beginCut_silent (c : CutCause) (s : State) : Silent (beginCut c s) where
  held := rfl
  free v := by
    show (s.val.voices.map Voice.freed)[v.val].state = .free
    rw [Vector.getElem_map]; rfl
  slot := rfl
  accent := rfl
  general e he := by
    obtain rfl | he := List.mem_cons.mp he
    · rfl
    have hkept : e ∈ s.evq.entries.filter fun e => e.report.section?.isNone && !e.isAllOff := by
      split at he
      · exact List.mem_of_mem_dropLast he
      · exact he
    have := (List.mem_filter.mp hkept).2
    rw [Bool.and_eq_true, Option.isNone_iff_eq_none] at this
    exact this.1

theorem SilentInCut.cutIfNormal {c : CutCause} (h : SilentInCut s) : SilentInCut (cutIfNormal c s) := by
  unfold Machine.cutIfNormal; split
  · exact h
  · exact (beginCut_silent c s).silentInCut

/-- A Resume ends the CUT or leaves the part as it is (R94). -/
theorem SilentInCut.resume {p : List Byte} (h : SilentInCut s) : SilentInCut (resume p s).state := by
  cases hcut : s.scn.cut with
  | false => rw [resume_of_normal hcut]; exact h
  | true =>
    cases hlow : s.scn.lastCut with
    | true => rw [resume_of_high hcut hlow]; exact h
    | false =>
      rw [resume_of_low hcut hlow]
      exact silentInCut_of_normal (by rw [(reportAllReady_dynamicsOnly _).scn]; rfl)

/-- After a soft reset only AllOff and Started wait (R144, R157). -/
theorem softReset_silent (s : State) : Silent (softReset s) where
  held := rfl
  free v := by
    show (s.val.voices.map Voice.freed)[v.val].state = .free
    rw [Vector.getElem_map]; rfl
  slot := rfl
  accent := rfl
  general e he := by
    obtain rfl | he := List.mem_cons.mp he
    · rfl
    · rw [List.mem_singleton.mp he]; rfl

theorem released_silent (cause : ResetCause) (rate : LineRate) (cut : Bool) (picks : Nat) (pending : List Instr) :
    Silent (State.released cause rate cut picks pending) where
  held := rfl
  free v := by simp [State.released, hardAllocator]
  slot := rfl
  accent := rfl
  general e he := by rw [List.mem_singleton.mp he]; rfl

end

/-! ### Every command and every step -/

section
variable {s t : State}

/-- A command whose effect keeps silence. -/
theorem SilenceKept.whileRunning {effect : State → State} (he : whileRunning effect s = .next t)
    (keeps : SilenceKept s (effect s)) : SilenceKept s t := whileRunning_keeps (.refl s) he keeps

/-- A request whose owner keeps the law. -/
theorem SilentInCut.serve {kind : Byte} {len : Nat} {owner : List Byte → State → Answer} (h : SilentInCut s)
    (he : serve kind len owner s = .next t) (keeps : ∀ p s, SilentInCut s → SilentInCut (owner p s).state) :
    SilentInCut t :=
  serve_keeps h he (fun s l hs => SilentInCut.of_kept hs (SoundStands.withLnk s l).silenceKept) keeps

/-- A request whose owner keeps silence. -/
theorem SilentInCut.serve_of_kept {kind : Byte} {len : Nat} {owner : List Byte → State → Answer} (h : SilentInCut s)
    (he : Machine.serve kind len owner s = .next t) (keeps : ∀ p s, SilenceKept s (owner p s).state) : SilentInCut t :=
  SilentInCut.serve h he fun p s hs => SilentInCut.of_kept hs (keeps p s)

theorem execResetRelease_keeps_silence {a b c : Bool} (h : SilentInCut s) (he : execResetRelease a b c s = .next t) :
    SilentInCut t := by
  unfold execResetRelease at he
  split at he
  · cases he; exact (released_silent ..).silentInCut
  · cases he; exact h

theorem execReset_keeps_silence (h : SilentInCut s) (he : execReset s = .next t) : SilentInCut t := by
  rcases takeRequest_cases he with rfl | ⟨f, rest, _, _, rfl⟩
  · exact h
  · split
    · exact (softReset_silent _).silentInCut
    · exact SilentInCut.of_kept h ((SoundStands.withInbound s rest).trans (.withLnk _ _)).silenceKept

theorem execCutEdge_keeps_silence (h : SilentInCut s) (he : execCutEdge s = .next t) : SilentInCut t := by
  refine whileRunning_keeps (P := fun t => SilentInCut t) h he ?_
  split
  · exact SilentInCut.cutIfNormal (SilentInCut.of_kept h (.withScn rfl))
  · exact h

theorem execScanCompletion_silenceKept {r : ScanResult} (he : execScanCompletion r s = .next t) : SilenceKept s t := by
  refine .whileRunning he ?_
  split
  · exact completeScan_silenceKept _ _ s
  · exact .refl s

theorem execSample_silenceKept {p : Int} (he : execSample p s = .next t) : SilenceKept s t := by
  refine .whileRunning he ?_
  split
  · exact (SoundStands.withBlu s _).silenceKept.trans (processSample_silenceKept _ _)
  · exact .refl s

theorem execBeatEdge_silenceKept (he : execBeatEdge s = .next t) : SilenceKept s t := by
  refine .whileRunning he ?_
  split
  · exact (SoundStands.withTck s _).silenceKept.trans (acceptBeat_silenceKept _)
  · exact .refl s

theorem execDeadline_silenceKept (he : execDeadline s = .next t) : SilenceKept s t := by
  refine .whileRunning he ?_
  split
  · exact meetDeadline_silenceKept s
  · exact .refl s

theorem execSettleExpiry_silenceKept {n : Nat} (he : execSettleExpiry n s = .next t) : SilenceKept s t := by
  refine .whileRunning he ?_
  repeat' split
  · exact becomeReady_silenceKept _ s
  all_goals exact .refl s

/-- No voice is RELEASING in silence. -/
theorem execReleaseExpiry_silenceKept {v : Nat} (he : execReleaseExpiry v s = .next t) : SilenceKept s t := by
  refine .whileRunning he ?_
  split
  next hv =>
    split
    next hr =>
      split
      · refine .of_idle rfl fun _ hs => ?_
        have hfree : s.val.voices[v].state = .free := hs.free ⟨v, hv⟩
        rw [hr] at hfree; cases hfree
      · exact .refl s
    · exact .refl s
    · exact .refl s
  · exact .refl s

end

/-- Every command keeps the silence of the CUT. -/
theorem exec_keeps_silence (i : Instr) {s t : State} (h : SilentInCut s) (he : exec i s = .next t) : SilentInCut t := by
  cases hi : worksSound i with
  | false => exact SilentInCut.of_kept h (exec_soundStands hi he).silenceKept
  | true =>
    cases i with
    | resetRelease a b c => exact execResetRelease_keeps_silence h he
    | scanCompletion r => exact SilentInCut.of_kept h (execScanCompletion_silenceKept he)
    | sample p => exact SilentInCut.of_kept h (execSample_silenceKept he)
    | beatEdge => exact SilentInCut.of_kept h (execBeatEdge_silenceKept he)
    | deadline => exact SilentInCut.of_kept h (execDeadline_silenceKept he)
    | cutEdge => exact execCutEdge_keeps_silence h he
    | settleExpiry n => exact SilentInCut.of_kept h (execSettleExpiry_silenceKept he)
    | releaseExpiry v => exact SilentInCut.of_kept h (execReleaseExpiry_silenceKept he)
    | writeSection => exact SilentInCut.serve_of_kept h he writeSection_silenceKept
    | sectionReady => exact SilentInCut.serve_of_kept h he sectionReady_silenceKept
    | cutRequest => exact SilentInCut.serve h he fun _ _ hs => SilentInCut.cutIfNormal hs
    | resume => exact SilentInCut.serve h he fun _ _ hs => SilentInCut.resume hs
    | selectPreset => exact SilentInCut.serve_of_kept h he selectRequest_silenceKept
    | reset => exact execReset_keeps_silence h he
    | _ => cases hi

/-- Settles O55: in a silent CUT each command leaves what sounds (`SoundStands`) or finds nothing to do; a cut and the resets bring
silence, and a Resume ends the CUT. -/
theorem everyStepKeepsTheCutSilent : Obligations.EveryStepKeepsTheCutSilent := by
  intro s t hs hstep
  rcases step_cases hstep with ⟨i, picks, pending, he⟩ | rfl
  · exact exec_keeps_silence i (s := { s with picks := picks, pending := pending }) hs he
  · exact SilentInCut.of_kept hs (passTick_soundStands s).silenceKept

end Sys2Proof.Machine
end

section
/-! ## Ending the oldest voices of a section (R129, R141, R142) -/

namespace Sys2Proof.Machine

/-- No list holds a voice. -/
abbrev State.unlisted (s : State) (v : Fin 48) : Prop := ∀ h ∈ s.val.held, ∀ p ∈ h.pairs, p.voice ≠ v

/-- What ending SOUNDING voices of a section with a reason leaves: only voices, lists and queue differ, no serial is taken, the keys
stay held, and each voice is as it was or is one that was ended, with its NoteOff waiting and no list that holds it. -/
structure VoicesEnded (n : Fin 8) (reason : NoteOffReason) (s t : State) : Prop where
  frame : t = (s.withVal t.val).withEvq t.evq
  serial : t.val.serial = s.val.serial
  sides : SidesKept s t
  wait : EntriesWait s t
  lists : ∀ v, s.unlisted v → t.unlisted v
  voices : ∀ v : Fin 48, t.val.voices[v] = s.val.voices[v] ∨
    (s.val.voices[v].isSounding = true ∧ s.val.voices[v].sect = n ∧ t.val.voices[v] = s.val.voices[v].freed ∧
      (∃ e ∈ t.evq.entries, e.report = .noteOff n s.val.voices[v].pitch reason) ∧ t.unlisted v)

section
variable {n : Fin 8} {reason : NoteOffReason} {s t u : State}

theorem VoicesEnded.refl (n : Fin 8) (reason : NoteOffReason) (s : State) : VoicesEnded n reason s s :=
  ⟨rfl, rfl, .refl s, fun _ he => he, fun _ => id, fun _ => .inl rfl⟩

theorem VoicesEnded.trans (h : VoicesEnded n reason s t) (k : VoicesEnded n reason t u) : VoicesEnded n reason s u where
  frame := by rw [k.frame, h.frame]; rfl
  serial := k.serial.trans h.serial
  sides := h.sides.trans k.sides
  wait := h.wait.trans k.wait
  lists v hv := k.lists v (h.lists v hv)
  voices v := by
    rcases h.voices v with ht | ⟨hs, hn, ht, ⟨e, he, hr⟩, hv⟩
    · rw [← ht]; exact k.voices v
    · refine .inr ⟨hs, hn, ?_, ⟨e, k.wait he, hr⟩, k.lists v hv⟩
      rcases k.voices v with hu | ⟨hu, _⟩
      · rw [hu, ht]
      · rw [ht] at hu; cases hu

/-- A SOUNDING voice of the section ended. -/
theorem endVoice_voicesEnded {v : Fin 48} (hv : s.val.voices[v].isSounding = true) (hn : s.val.voices[v].sect = n) :
    VoicesEnded n reason s (endVoice reason v s) where
  frame := rfl
  serial := rfl
  sides := endVoice_sidesKept reason v s
  wait := EntriesWait.pushSection s.val.voices[v].sect _ s
  lists w hw h hh p hp := by
    obtain ⟨x, hx, rfl⟩ := List.mem_map.mp hh
    exact hw x hx p (List.mem_of_mem_filter hp)
  voices w := by
    rw [endVoice_get]
    split
    next hvw =>
      subst hvw
      refine .inr ⟨hv, hn, rfl, ⟨_, mem_pushSection.mpr (.inl rfl), by rw [hn]⟩, fun h hh p hp => ?_⟩
      obtain ⟨x, _, rfl⟩ := List.mem_map.mp hh
      exact bne_iff_ne.mp (List.mem_filter.mp hp).2
    · exact .inl rfl

/-- Ending the oldest voice of a section ends a SOUNDING voice of it; where there is none it does nothing. -/
theorem endOldest_split (n : Fin 8) (reason : NoteOffReason) (s : State) :
    ((∀ v : Fin 48, s.val.voices[v].isSounding = true → s.val.voices[v].sect ≠ n) ∧ endOldest n reason s = s) ∨
      ∃ v, s.val.voices[v].isSounding = true ∧ s.val.voices[v].sect = n ∧ endOldest n reason s = endVoice reason v s := by
  cases h : s.oldest (fun x => x.isSounding && x.sect == n) with
  | none =>
    refine .inl ⟨fun v hv hn => ?_, by rw [endOldest, h]⟩
    have := oldest_none h v
    rw [hv, hn, beq_self_eq_true] at this
    cases this
  | some v =>
    obtain ⟨hv, hn⟩ := Bool.and_eq_true_iff.mp (oldest_some h).1
    exact .inr ⟨v, hv, beq_iff_eq.mp hn, by rw [endOldest, h]⟩

theorem endOldest_voicesEnded (n : Fin 8) (reason : NoteOffReason) (s : State) :
    VoicesEnded n reason s (endOldest n reason s) := by
  rcases endOldest_split n reason s with ⟨_, he⟩ | ⟨v, hv, hn, he⟩ <;> rw [he]
  · exact .refl n reason s
  · exact endVoice_voicesEnded hv hn

theorem repeat_endOldest_voicesEnded (n : Fin 8) (reason : NoteOffReason) (k : Nat) (s : State) :
    VoicesEnded n reason s (Nat.repeat (endOldest n reason) k s) :=
  repeat_keeps (.refl n reason) (fun _ _ _ => .trans) (endOldest_voicesEnded n reason) k s

/-! ### SOUNDING counts -/

/-- A voice replaced changes the SOUNDING count of a section by what it was and is. -/
theorem setVoice_soundingIn (v : Fin 48) (x : Voice) (n : Fin 8) (s : State) :
    (setVoice v x s).soundingIn n + (if s.val.voices[v].isSounding && s.val.voices[v].sect == n then 1 else 0) =
      s.soundingIn n + if x.isSounding && x.sect == n then 1 else 0 := by
  have hv : v.val < s.val.voices.toList.length := by simp
  have hset := List.countP_set (p := fun x => x.isSounding && x.sect == n) (a := x) hv
  have hpos : (if s.val.voices[v].isSounding && s.val.voices[v].sect == n then 1 else 0) ≤
      s.val.voices.toList.countP fun x => x.isSounding && x.sect == n := by
    split
    · exact List.countP_pos_iff.mpr ⟨s.val.voices[v], by simp, ‹_›⟩
    · exact Nat.zero_le _
  simp only [State.soundingIn, setVoice, State.withVal_val, Fin.getElem_fin, Vector.toList_set, hset,
    Vector.getElem_toList] at hpos ⊢
  omega

/-- The SOUNDING count of a section, counted over the voice numbers. -/
theorem soundingIn_eq (n : Fin 8) (s : State) :
    s.soundingIn n =
      (List.finRange 48).countP fun v => s.val.voices[v].isSounding && s.val.voices[v].sect == n := by
  have hlist : s.val.voices.toList = (List.finRange 48).map fun v => s.val.voices[v] :=
    List.ext_getElem (by simp) fun i _ _ => by simp
  rw [State.soundingIn, hlist, List.countP_map]
  rfl

theorem soundingIn_eq_zero : s.soundingIn n = 0 ↔ ∀ v : Fin 48, s.val.voices[v].isSounding = true → s.val.voices[v].sect ≠ n := by
  rw [soundingIn_eq, List.countP_eq_zero]
  simp [List.mem_finRange]

theorem setVoice_soundingIn_of_ended {v : Fin 48} {x : Voice} (hv : s.val.voices[v].isSounding = true)
    (hn : s.val.voices[v].sect = n) (hx : x.isSounding = false) :
    (setVoice v x s).soundingIn n + 1 = s.soundingIn n := by
  have := setVoice_soundingIn v x n s
  rw [hv, hn, hx, beq_self_eq_true] at this
  simpa using this

theorem endVoice_soundingIn {v : Fin 48} (hv : s.val.voices[v].isSounding = true) (hn : s.val.voices[v].sect = n) :
    (endVoice reason v s).soundingIn n + 1 = s.soundingIn n :=
  have hset : (setVoice v s.val.voices[v].freed
      (removeFromLists v (pushSection s.val.voices[v].sect _ s))).soundingIn n + 1 = s.soundingIn n :=
    setVoice_soundingIn_of_ended hv hn (Voice.freed_isSounding _)
  hset

/-- Ending the oldest voice lowers the SOUNDING count of its section by one, while it is not 0. -/
theorem endOldest_soundingIn (n : Fin 8) (reason : NoteOffReason) (s : State) :
    (endOldest n reason s).soundingIn n = s.soundingIn n - 1 := by
  rcases endOldest_split n reason s with ⟨hnone, he⟩ | ⟨v, hv, hn, he⟩ <;> rw [he]
  · rw [soundingIn_eq_zero.mpr hnone]
  · exact Nat.eq_sub_of_add_eq (endVoice_soundingIn hv hn)

theorem repeat_endOldest_soundingIn (n : Fin 8) (reason : NoteOffReason) (k : Nat) (s : State) :
    (Nat.repeat (endOldest n reason) k s).soundingIn n = s.soundingIn n - k := by
  induction k with
  | zero => rfl
  | succ k ih => rw [Nat.repeat, endOldest_soundingIn, ih, Nat.sub_sub]

end

end Sys2Proof.Machine
end

section
/-! ## WriteSection (R80, R82, R83, R142) -/

namespace Sys2Proof.Machine

/-! ### Section records (R80, R82, R181) -/

theorem SectionRecord.bytes_length (r : SectionRecord) : r.bytes.length = 17 := by simp [bytes, byte1, byte2]

/-- A number of two bytes is its two bytes' value. -/
theorem word_bytes {x : Nat} (h : x ≤ 65535) : (BitVec.ofNat 8 (x / 256)).toNat * 256 + (BitVec.ofNat 8 x).toNat = x := by
  rw [BitVec.toNat_ofNat, BitVec.toNat_ofNat]; omega

/-- The points of a curve stand behind the other fields of its record. -/
theorem SectionRecord.byteAt_bytes (r : SectionRecord) (i : Fin 9) :
    byteAt r.bytes (8 + i.val) = (BitVec.ofNat 8 (r.curve.get i)).toNat := by
  obtain ⟨i, hi⟩ := i
  simp [byteAt, bytes, byte1, byte2, Vector.get, Nat.add_comm 8 i, hi]

/-- A record that a request can carry is the record of its own bytes. -/
theorem sectionRecordOf_bytes {r : SectionRecord} (h : RecordCarried r) : sectionRecordOf r.bytes = r := by
  obtain ⟨polyphony, lo, hi, hold, alignment, boost, curve⟩ := r
  obtain ⟨hpolyphony, hlo, hhi, hhold, halignment, hboost, hcurve⟩ := h
  simp only [sectionRecordOf, SectionRecord.mk.injEq]
  refine ⟨toNat_byte (by omega), toNat_byte (by omega), toNat_byte (by omega), word_bytes hhold, word_bytes halignment,
    toNat_byte (by omega), Vector.ext fun i hi => ?_⟩
  have hpoint := hcurve ⟨i, hi⟩
  rw [Vector.getElem_ofFn, SectionRecord.byteAt_bytes _ ⟨i, hi⟩, toNat_byte (by dsimp only at hpoint ⊢; omega)]
  rfl

/-- What the model takes of a carried record is what R82 says. -/
theorem SectionRecord.clamped_eq_taken (r : SectionRecord) : r.clamped = r.taken := by
  simp only [clamped, taken, clampNat_eq (Nat.zero_le _), clampNat_eq (show 1 ≤ 16 by decide), Nat.zero_max]

theorem rangeLegal_iff {lo hi : Nat} : rangeLegal lo hi = true ↔ hi ≤ 127 ∧ lo + 11 ≤ hi := by simp [rangeLegal]

/-- The status byte of an answer that may be clamped (R175). -/
theorem doneOrClamped_byte {changed : Bool} {p : Prop} [Decidable p] (h : changed = true ↔ ¬ p) :
    BitVec.ofNat 8 (statusCode (doneOrClamped changed)) = if p then 0x00 else 0x01 := by
  by_cases hp : p
  · rw [Bool.eq_false_iff.mpr fun hc => h.mp hc hp, if_pos hp]; rfl
  · rw [h.mpr hp, if_neg hp]; rfl

/-! ### The owner (R82, R83) -/

section
variable {s : State} {b : Byte} {n : Fin 8} {record : List Byte} {r : SectionRecord}

theorem writeSection_of_legal (hb : b.toNat = n.val) (hr : sectionRecordOf record = r) (hhi : r.hi ≤ 127)
    (hlo : r.lo + 11 ≤ r.hi) :
    writeSection (b :: record) s =
      { state := stealToLimit n (setRecord n r.taken s)
        status := doneOrClamped (r.taken != r)
        data := b :: r.taken.bytes } := by
  obtain ⟨n, hn⟩ := n
  cases hb
  have hcarried : sectionRecordOf ((b :: record).drop 1) = r := hr
  rw [writeSection, dif_pos (show byteAt (b :: record) 0 < 8 from hn), hcarried, if_pos (rangeLegal_iff.mpr ⟨hhi, hlo⟩),
    r.clamped_eq_taken]
  rfl

/-- A section above 7, and a range that is not legal, are refused. -/
theorem writeSection_of_illegal (h : 7 < b.toNat ∨ 127 < (sectionRecordOf record).hi ∨
    (sectionRecordOf record).hi < (sectionRecordOf record).lo + 11) :
    writeSection (b :: record) s = { state := s, status := .refusedValue, data := [b] } := by
  have hnumber : byteAt (b :: record) 0 = b.toNat := rfl
  have hcarried : (b :: record).drop 1 = record := rfl
  rw [writeSection, hcarried]
  split
  · rw [if_neg (by rw [rangeLegal_iff]; omega)]; rfl
  · rfl

/-- A lowered limit ends as many voices as the SOUNDING count exceeds it by (R142). -/
theorem stealToLimit_setRecord (n : Fin 8) (r : SectionRecord) (s : State) :
    stealToLimit n (setRecord n r s) =
      Nat.repeat (endOldest n .limit) (s.soundingIn n - r.polyphony) (setRecord n r s) := by
  have hlimit : (setRecord n r s).scn.records[n] = r := by simp [setRecord]
  rw [stealToLimit, hlimit]; rfl

end

/-! ### The command -/

section
variable {s : State} {tag : Byte} {n : Fin 8} {r : SectionRecord} {rest : List Frame}

theorem number_byte (n : Fin 8) : (BitVec.ofNat 8 n.val).toNat = n.val := toNat_byte (by omega)

theorem exec_writeSection_of_legal (hr : RecordCarried r) (ho : s.offers 0x08 tag (BitVec.ofNat 8 n.val :: r.bytes) rest)
    (hhi : r.hi ≤ 127) (hlo : r.lo + 11 ≤ r.hi) :
    exec .writeSection s =
      .next (reply { kind := 0x08, tag := tag, payload := BitVec.ofNat 8 n.val :: r.bytes }
        { state :=
            Nat.repeat (endOldest n .limit) (s.soundingIn n - r.taken.polyphony) (setRecord n r.taken (s.taken rest))
          status := doneOrClamped (r.taken != r)
          data := BitVec.ofNat 8 n.val :: r.taken.bytes }) := by
  have harm : exec .writeSection s = serve 0x08 18 writeSection s := rfl
  have hlen : (BitVec.ofNat 8 n.val :: r.bytes).length = 18 := by rw [List.length_cons, r.bytes_length]
  rw [harm, serve_of_offers ho hlen, writeSection_of_legal (number_byte n) (sectionRecordOf_bytes hr) hhi hlo,
    stealToLimit_setRecord]
  rfl

theorem exec_writeSection_of_illegal {b : Byte} {record : List Byte} (hl : record.length = 17)
    (ho : s.offers 0x08 tag (b :: record) rest)
    (h : 7 < b.toNat ∨ 127 < (sectionRecordOf record).hi ∨ (sectionRecordOf record).hi < (sectionRecordOf record).lo + 11) :
    exec .writeSection s = .next { s with lnk := s.lnk.answered rest 0x08 tag 0x12 [b] } :=
  serve_of_unchanged (len := 18) ho (by rw [List.length_cons, hl]) (writeSection_of_illegal h)

end

/-- Settles O32: the owner replaces the record and ends the oldest voice as often as the count exceeds the limit; what that leaves
is `VoicesEnded`. -/
theorem writeSectionReplacesTheRecord : Obligations.WriteSectionReplacesTheRecord := by
  refine ⟨fun s tag n r rest hr ho => ⟨fun hhi hlo => ?_, fun hrange => ?_⟩, fun s tag b record rest hb hl ho =>
    exec_writeSection_of_illegal hl ho (.inl hb)⟩
  · have hexec := exec_writeSection_of_legal hr ho hhi hlo
    have hended := repeat_endOldest_voicesEnded n .limit (s.soundingIn n - r.taken.polyphony)
      (setRecord n r.taken (s.taken rest))
    have hcount := repeat_endOldest_soundingIn n .limit (s.soundingIn n - r.taken.polyphony)
      (setRecord n r.taken (s.taken rest))
    have hnone : s.soundingIn n ≤ r.taken.polyphony →
        Nat.repeat (endOldest n .limit) (s.soundingIn n - r.taken.polyphony) (setRecord n r.taken (s.taken rest)) =
          setRecord n r.taken (s.taken rest) := fun h => by rw [Nat.sub_eq_zero_of_le h]; rfl
    refine ⟨_, hexec, ?_, fun h => ?_, ⟨rfl, rfl⟩, fun h => hcount.trans (Nat.sub_sub_self h.le), fun v hv => ?_⟩
    · have hstatus := doneOrClamped_byte (changed := r.taken != r) (p := r.taken = r) bne_iff_ne
      rw [← hstatus]
      generalize Nat.repeat (endOldest n .limit) _ _ = u at hended
      rw [hended.frame]; rfl
    · rw [hnone h]; exact ⟨rfl, rfl⟩
    · rcases hended.voices v with h | ⟨hs, hn, _⟩
      · exact h
      · exact absurd hn (hv.resolve_right (not_not_intro (Voice.isSounding_iff.mp hs)))
  · refine exec_writeSection_of_illegal r.bytes_length ho (.inr ?_)
    rw [sectionRecordOf_bytes hr]; exact hrange

end Sys2Proof.Machine
end

section
/-! ## SectionReady (R86, R87, R141) -/

namespace Sys2Proof.Machine

/-! ### The owner -/

section
variable {s : State} {b : Byte} {n : Fin 8}

theorem setReadiness_get (n : Fin 8) (r : Readiness) (s : State) : (setReadiness n r s).scn.readiness[n] = r := by
  simp [setReadiness]

theorem declareReady_of_ready {settle : Nat} (h : s.scn.readiness[n] = .ready) : declareReady n settle s = s := by
  unfold declareReady; rw [h]

theorem declareReady_of_not_ready {settle : Nat} (h : s.scn.readiness[n] ≠ .ready) :
    declareReady n settle s =
      if settle = 0 then becomeReady n s
      else setReadiness n (.settling (s.tick + BitVec.ofNat 32 (settle * 10))) s := by
  unfold declareReady
  split
  · exact absurd ‹_› h
  · rfl
  · rfl

theorem declareOff_of_ready (h : s.scn.readiness[n] = .ready) :
    declareOff n s = endSection n (setReadiness n .off s) := by
  unfold declareOff; rw [h]

theorem declareOff_of_not_ready (h : s.scn.readiness[n] ≠ .ready) : declareOff n s = setReadiness n .off s := by
  unfold declareOff
  split
  · exact absurd ‹_› h
  · rfl
  · rfl

theorem sectionReady_of_one {settle : Byte} (hb : b.toNat = n.val) :
    sectionReady [b, 1, settle] s =
      { state := declareReady n settle.toNat s
        status := .done
        data := [b, BitVec.ofNat 8 (declareReady n settle.toNat s).scn.readiness[n].code] } := by
  obtain ⟨n, hn⟩ := n
  cases hb
  have hready : bitOfCode (byteAt [b, 1, settle] 1) = some true := rfl
  rw [sectionReady, hready]
  exact dif_pos hn

theorem sectionReady_of_zero {settle : Byte} (hb : b.toNat = n.val) :
    sectionReady [b, 0, settle] s =
      { state := declareOff n s
        status := .done
        data := [b, BitVec.ofNat 8 (declareOff n s).scn.readiness[n].code] } := by
  obtain ⟨n, hn⟩ := n
  cases hb
  have hready : bitOfCode (byteAt [b, 0, settle] 1) = some false := rfl
  rw [sectionReady, hready]
  exact dif_pos hn

theorem bitOfCode_of_illegal {k : Nat} (h : 1 < k) : bitOfCode k = none := by
  obtain ⟨m, rfl⟩ := Nat.exists_eq_add_of_lt h
  rw [Nat.add_assoc, Nat.add_comm]; rfl

/-- A section above 7, and a ready field above 1, are refused. -/
theorem sectionReady_of_illegal {ready settle : Byte} (h : 7 < b.toNat ∨ 1 < ready.toNat) :
    sectionReady [b, ready, settle] s = { state := s, status := .refusedValue, data := [b] } := by
  have hready : byteAt [b, ready, settle] 1 = ready.toNat := rfl
  have hnumber : byteAt [b, ready, settle] 0 = b.toNat := rfl
  unfold sectionReady
  split
  · rfl
  next bit hbit =>
    rw [hready] at hbit
    refine dif_neg fun hn => ?_
    rcases h with h | h
    · omega
    · rw [bitOfCode_of_illegal h] at hbit; cases hbit

end

/-! ### A section that leaves READY (R141) -/

section
variable {s : State} {n : Fin 8}

/-- The part with the SOUNDING voices of a section ended, before its RELEASING ones become FREE. -/
def quietSection (n : Fin 8) (s : State) : State := Nat.repeat (endOldest n .sectionOff) (s.soundingIn n) s

theorem quietSection_voicesEnded (n : Fin 8) (s : State) : VoicesEnded n .sectionOff s (quietSection n s) :=
  repeat_endOldest_voicesEnded ..

/-- As many endings as voices sound leave none SOUNDING. -/
theorem quietSection_silent {v : Fin 48} (h : (quietSection n s).val.voices[v].sect = n) :
    (quietSection n s).val.voices[v].state ≠ .sounding := fun hs => by
  have hzero : (quietSection n s).soundingIn n = 0 := by
    rw [quietSection, repeat_endOldest_soundingIn, Nat.sub_self]
  exact soundingIn_eq_zero.mp hzero v (Voice.isSounding_iff.mpr hs) h

/-- A voice as it stands when its section has left READY. -/
def Voice.outOf (n : Fin 8) (x : Voice) : Voice :=
  if x.sect = n ∧ x.state ≠ .free then { x with state := .free, holders := 0 } else x

theorem endSection_eq (n : Fin 8) (s : State) :
    endSection n s =
      (quietSection n s).withVal
        { (quietSection n s).val with voices := (quietSection n s).val.voices.map (Voice.outOf n) } := by
  have hvoices : ((quietSection n s).val.voices.map fun x => if x.isReleasing && x.sect == n then x.freed else x) =
      (quietSection n s).val.voices.map (Voice.outOf n) := by
    refine Vector.ext fun i hi => ?_
    rw [Vector.getElem_map, Vector.getElem_map]
    have hsilent := quietSection_silent (n := n) (s := s) (v := ⟨i, hi⟩)
    refine if_congr ?_ rfl rfl
    rw [Bool.and_eq_true, beq_iff_eq, Voice.isReleasing_iff]
    exact ⟨fun ⟨⟨_, hfree⟩, hn⟩ => ⟨hn, hfree⟩, fun ⟨hn, hfree⟩ => ⟨⟨hsilent hn, hfree⟩, hn⟩⟩
  rw [← hvoices]; rfl

theorem Voice.outOf_of_ne {x : Voice} (h : x.sect ≠ n) : x.outOf n = x := if_neg fun hx => h hx.1

theorem Voice.outOf_free {x : Voice} (h : x.sect = n) : (x.outOf n).state = .free := by
  unfold outOf; split
  · rfl
  next hx => exact not_not.mp fun hfree => hx ⟨h, hfree⟩

theorem endSection_get (v : Fin 48) : (endSection n s).val.voices[v] = (quietSection n s).val.voices[v].outOf n := by
  rw [endSection_eq]; exact Vector.getElem_map ..

/-- Every voice of the section is FREE, and every other as it was. -/
theorem endSection_voices (v : Fin 48) :
    (s.val.voices[v].sect = n → (endSection n s).val.voices[v].state = .free) ∧
      (s.val.voices[v].sect ≠ n → (endSection n s).val.voices[v] = s.val.voices[v]) := by
  rw [endSection_get]
  rcases (quietSection_voicesEnded n s).voices v with h | ⟨_, hn, h, _⟩ <;> rw [h]
  · exact ⟨Voice.outOf_free, Voice.outOf_of_ne⟩
  · exact ⟨fun hn => Voice.outOf_free hn, fun hne => absurd hn hne⟩

/-- The NoteOff of each voice that was SOUNDING waits, and no list holds it. -/
theorem endSection_notes {v : Fin 48} (hn : s.val.voices[v].sect = n) (hs : s.val.voices[v].state = .sounding) :
    (∃ e ∈ (endSection n s).evq.entries, e.report = .noteOff n s.val.voices[v].pitch .sectionOff) ∧
      (endSection n s).unlisted v := by
  rw [endSection_eq]
  rcases (quietSection_voicesEnded n s).voices v with h | ⟨_, _, _, hnote⟩
  · exact absurd (h ▸ hs) (quietSection_silent (h ▸ hn))
  · exact hnote

/-- At most voices, lists and the queue differ, and no serial is taken. -/
theorem endSection_frame (n : Fin 8) (s : State) :
    endSection n s = (s.withVal (endSection n s).val).withEvq (endSection n s).evq := by
  have hframe := (quietSection_voicesEnded n s).frame
  rw [endSection_eq]
  generalize quietSection n s = u at hframe
  rw [hframe]; rfl

end

/-! ### The command -/

section
variable {s : State} {tag settle : Byte} {n : Fin 8} {rest : List Frame}

theorem exec_sectionReady_of_one (ho : s.offers 0x0A tag [BitVec.ofNat 8 n.val, 1, settle] rest) {t : State}
    (ht : declareReady n settle.toNat (s.taken rest) = t) :
    exec .sectionReady s =
      .next (reply { kind := 0x0A, tag := tag, payload := [BitVec.ofNat 8 n.val, 1, settle] }
        { state := t, status := .done, data := [BitVec.ofNat 8 n.val, BitVec.ofNat 8 t.scn.readiness[n].code] }) := by
  have harm : exec .sectionReady s = serve 0x0A 3 sectionReady s := rfl
  rw [harm, serve_of_offers (len := 3) ho rfl, sectionReady_of_one (number_byte n), ← ht]
  rfl

theorem exec_sectionReady_of_zero (ho : s.offers 0x0A tag [BitVec.ofNat 8 n.val, 0, settle] rest) {t : State}
    (ht : declareOff n (s.taken rest) = t) :
    exec .sectionReady s =
      .next (reply { kind := 0x0A, tag := tag, payload := [BitVec.ofNat 8 n.val, 0, settle] }
        { state := t, status := .done, data := [BitVec.ofNat 8 n.val, BitVec.ofNat 8 t.scn.readiness[n].code] }) := by
  have harm : exec .sectionReady s = serve 0x0A 3 sectionReady s := rfl
  rw [harm, serve_of_offers (len := 3) ho rfl, sectionReady_of_zero (number_byte n), ← ht]
  rfl

theorem taken_get (n : Fin 8) : (s.taken rest).scn.readiness[n] = s.scn.readiness[n] := rfl

/-- A section that becomes READY at once: at most its readiness, the levels and the queue differ. -/
theorem exec_sectionReady_of_settled (ho : s.offers 0x0A tag [BitVec.ofNat 8 n.val, 1, 0] rest)
    (h : s.scn.readiness[n] ≠ .ready) :
    exec .sectionReady s =
      .next { s with
        scn := { s.scn with readiness := s.scn.readiness.set n .ready }
        exu := (becomeReady n (s.taken rest)).exu
        evq := (becomeReady n (s.taken rest)).evq
        lnk := s.lnk.answered rest 0x0A tag 0x00 [BitVec.ofNat 8 n.val, 2] } := by
  have hready : declareReady n (0 : Byte).toNat (s.taken rest) = becomeReady n (s.taken rest) :=
    (declareReady_of_not_ready (s := s.taken rest) h).trans (if_pos rfl)
  have hframe := becomeReady_frame n (s.taken rest)
  rw [exec_sectionReady_of_one ho hready]
  generalize becomeReady n (s.taken rest) = u at hframe
  have hcode : u.scn.readiness[n] = .ready := by rw [hframe]; exact setReadiness_get n .ready (s.taken rest)
  rw [hcode, hframe]
  rfl

/-- A section that leaves READY: at most its readiness, voices, lists and the queue differ. -/
theorem exec_sectionReady_of_leaving (ho : s.offers 0x0A tag [BitVec.ofNat 8 n.val, 0, settle] rest)
    (h : s.scn.readiness[n] = .ready) :
    exec .sectionReady s =
      .next { s with
        scn := { s.scn with readiness := s.scn.readiness.set n .off }
        val := (endSection n (setReadiness n .off (s.taken rest))).val
        evq := (endSection n (setReadiness n .off (s.taken rest))).evq
        lnk := s.lnk.answered rest 0x0A tag 0x00 [BitVec.ofNat 8 n.val, 0] } := by
  have hframe := endSection_frame n (setReadiness n .off (s.taken rest))
  rw [exec_sectionReady_of_zero ho (declareOff_of_ready (s := s.taken rest) h)]
  generalize endSection n (setReadiness n .off (s.taken rest)) = u at hframe
  have hcode : u.scn.readiness[n] = .off := by rw [hframe]; exact setReadiness_get n .off (s.taken rest)
  rw [hcode, hframe]
  rfl

end

/-- Settles O33: a section declared ready settles or becomes READY (`becomeReady`), and one that leaves READY ends its voices
(`endSection`). -/
theorem sectionReadyChangesReadiness : Obligations.SectionReadyChangesReadiness := by
  refine ⟨fun s tag settle n rest => ⟨fun ho => ⟨fun h => ?_, fun h hsettle => ?_, fun h hsettle => ?_⟩,
    fun ho => ⟨fun h => ?_, fun h => ?_⟩⟩, fun s tag b ready settle rest h ho =>
      serve_of_unchanged (len := 3) ho rfl (sectionReady_of_illegal h)⟩
  · rw [exec_sectionReady_of_one ho (declareReady_of_ready (s := s.taken rest) h), taken_get, h]; rfl
  · have hne : settle.toNat ≠ 0 := fun hz => hsettle (BitVec.eq_of_toNat_eq hz)
    rw [exec_sectionReady_of_one ho ((declareReady_of_not_ready (s := s.taken rest) h).trans (if_neg hne)),
      setReadiness_get]
    rfl
  · subst hsettle
    refine ⟨_, exec_sectionReady_of_settled ho h, rfl, fun hcut => ?_, fun hcut hmade => ?_⟩
    · rw [becomeReady_of_cut (s := s.taken rest) hcut]; exact ⟨rfl, rfl⟩
    · rw [becomeReady_of_normal (s := s.taken rest) hcut,
        handDynamic_get (s := setReadiness n .ready (s.taken rest)) hmade]
      exact ⟨rfl, handDynamic_reports (s := setReadiness n .ready (s.taken rest)) hmade⟩
  · rw [exec_sectionReady_of_zero ho (declareOff_of_not_ready (s := s.taken rest) h), setReadiness_get]; rfl
  · have hended := quietSection_voicesEnded n (setReadiness n .off (s.taken rest))
    have heq := endSection_eq n (setReadiness n .off (s.taken rest))
    refine ⟨_, exec_sectionReady_of_leaving ho h, rfl, ⟨by rw [heq]; rfl, by rw [heq]; rfl⟩, ?_, ?_, fun v => ⟨?_, ?_, ?_⟩⟩
    · rw [heq]; exact hended.serial
    · rw [heq]; exact hended.sides.heldKeys
    · exact (endSection_voices (s := setReadiness n .off (s.taken rest)) v).1
    · exact (endSection_voices (s := setReadiness n .off (s.taken rest)) v).2
    · exact endSection_notes (s := setReadiness n .off (s.taken rest))

end Sys2Proof.Machine
end

section
/-! ## Cut (R90 to R92) and the release of a hard reset (R95, R158, R166, R180) -/

namespace Sys2Proof.Machine

section
variable {s : State}

/-- The six parts of a cut leave what R91 says. -/
theorem beginCut_eq_afterCut (c : CutCause) (s : State) : beginCut c s = s.afterCut c c.allOff := by
  have hkept : (fun e : Entry => e.report.section?.isNone && !e.isAllOff) = fun e =>
      e.report.section? == none && !e.isAllOff := by
    funext e; cases e.report.section? <;> rfl
  simp only [State.afterCut, ← hkept, beginCut, closeAccent, emptySlot, purgeForCut, setCutRecord, endAllVoices, setCut]
  cases s
  rfl

theorem cutIfNormal_of_normal {c : CutCause} (h : s.scn.cut = false) : cutIfNormal c s = s.afterCut c c.allOff := by
  rw [cutIfNormal, h]; exact beginCut_eq_afterCut c s

theorem cutIfNormal_of_cut {c : CutCause} (h : s.scn.cut = true) : cutIfNormal c s = s := if_pos h

/-- An accepted edge is taken off the filter, and cuts in NORMAL (R90, R91). -/
theorem exec_cutEdge_of_accepted (hr : s.inReset = none) (ha : s.scn.cutLine.accepted = true) :
    exec .cutEdge s =
      .next (cutIfNormal .line { s with scn := { s.scn with cutLine := { s.scn.cutLine with accepted := false } } }) := by
  rw [exec_cutEdge_of_some hr (LineFilter.takeEdge_of_accepted ha), ha, Bool.not_true, Bool.or_false]; rfl

/-- The byte of a cut record's cause (R181). -/
theorem cutCause_byte (c : Option CutCause) :
    BitVec.ofNat 8 (cutCauseCode c) = match c with | none => 0 | some .line => 1 | some .request => 2 := by
  rcases c with _ | _ | _ <;> rfl

/-- The Cut request answers with the record that it leaves (R92). -/
theorem exec_cutRequest {tag : Byte} {rest : List Frame} (ho : s.offers 0x0B tag [] rest) {t : State}
    (ht : cutIfNormal .request (s.taken rest) = t) :
    exec .cutRequest s =
      .next (reply { kind := 0x0B, tag := tag, payload := [] }
        { state := t, status := .done
          data := byte1 (bitCode t.scn.cut) ++ byte1 (cutCauseCode t.scn.cutCause) ++ byte1 t.scn.cutVoices }) := by
  have harm : exec .cutRequest s = serve 0x0B 0 cutRequest s := rfl
  rw [harm, serve_of_offers (len := 0) ho rfl, ← ht]; rfl

end

/-- Settles O35: line and request cut through `cutIfNormal`, which in NORMAL leaves `State.afterCut`. -/
theorem cutEndsVoicesAndQueuesAllOff : Obligations.CutEndsVoicesAndQueuesAllOff := by
  intro s
  refine ⟨fun hr ha => ?_, fun tag rest ho => ⟨fun hcut => ?_, fun hcut => ?_⟩⟩
  · intro taken
    rw [exec_cutEdge_of_accepted hr ha]
    exact ⟨fun hcut => congrArg _ (cutIfNormal_of_normal (s := taken) hcut),
      fun hcut => congrArg _ (cutIfNormal_of_cut (s := taken) hcut)⟩
  · rw [exec_cutRequest ho (cutIfNormal_of_normal (s := s.taken rest) hcut)]; rfl
  · have hbit : (s.taken rest).scn.cut = true := hcut
    rw [exec_cutRequest ho (cutIfNormal_of_cut (s := s.taken rest) hcut), hbit]
    exact congrArg (fun cause => (.next { s with
      lnk := s.lnk.answered rest 0x0B tag 0x00 [1, cause, BitVec.ofNat 8 s.scn.cutVoices] } : Result)) (cutCause_byte _)

/-- Settles O7: the release takes the values of State.reset, but for the pins, the cause and the model's own fields. -/
theorem releaseTakesTheHardResetValues : Obligations.ReleaseTakesTheHardResetValues := by
  intro s cause lsel1 lsel0 cut h
  have hrelease : exec (.resetRelease lsel1 lsel0 cut) s =
      .next (State.released cause (rateOf lsel1 lsel0) cut s.picks s.pending) := by
    show execResetRelease lsel1 lsel0 cut s = _
    rw [execResetRelease, h]
  have hcause : startedCauseOf cause = if cause = .power then .power else .line := by cases cause <;> rfl
  have hrate : rateOf lsel1 lsel0 = if lsel1 then (if lsel0 then .m3 else .m2) else (if lsel0 then .m1 else .k500) := by
    cases lsel1 <;> cases lsel0 <;> rfl
  rw [hrelease, ← hcause, ← hrate]
  rfl

end Sys2Proof.Machine
end

section
/-! ## The laws of the voices (R85, R126, R128)

Almost every operation only lets voices fade: it ends, frees or shares them, and begins none. Voices begin in one place, when a pitch
is placed; there room is made and the lookup has found no other voice with the pitch. -/

namespace Sys2Proof.Machine

/-- No voice of a section that is not READY is live (R85). -/
abbrev State.liveInReady (s : State) : Prop :=
  ∀ (v : Fin 48) (n : Fin 8), s.val.voices[v].state ≠ .free → s.val.voices[v].sect = n → s.scn.readiness[n] = .ready

/-- Live voices are distinct and in READY sections, and no limit is exceeded. -/
structure VoicesLegal (s : State) : Prop where
  distinct : VoicesDistinct s
  ready : s.liveInReady
  limits : LimitsKept s

/-- A voice stays or fades: what is live was live with the same section and pitch, and what is SOUNDING was SOUNDING. -/
structure Voice.FadesTo (x y : Voice) : Prop where
  live : y.state ≠ .free → x.state ≠ .free ∧ y.sect = x.sect ∧ y.pitch = x.pitch
  sounding : y.isSounding = true → x.isSounding = true

/-- No voice begins, the records stand, and no section with a live voice leaves READY. -/
structure VoicesFade (s t : State) : Prop where
  voices : ∀ v : Fin 48, s.val.voices[v].FadesTo t.val.voices[v]
  records : t.scn.records = s.scn.records
  ready : ∀ (v : Fin 48) (n : Fin 8), t.val.voices[v].state ≠ .free → t.val.voices[v].sect = n →
    s.scn.readiness[n] = .ready → t.scn.readiness[n] = .ready

/-- A voice whose holders or serial change. -/
theorem Voice.FadesTo.of_same {x y : Voice} (hstate : y.state = x.state) (hsect : y.sect = x.sect) (hpitch : y.pitch = x.pitch) :
    x.FadesTo y :=
  ⟨fun h => ⟨hstate ▸ h, hsect, hpitch⟩, fun h => by rw [isSounding_iff] at h ⊢; exact hstate ▸ h⟩

theorem Voice.FadesTo.refl (x : Voice) : x.FadesTo x := .of_same rfl rfl rfl

theorem Voice.FadesTo.trans {x y z : Voice} (h : x.FadesTo y) (k : y.FadesTo z) : x.FadesTo z where
  live hz := by
    obtain ⟨hy, hsect, hpitch⟩ := k.live hz
    obtain ⟨hx, hsect', hpitch'⟩ := h.live hy
    exact ⟨hx, hsect.trans hsect', hpitch.trans hpitch'⟩
  sounding := h.sounding ∘ k.sounding

/-- A FREE voice is what any voice may fade to. -/
theorem Voice.FadesTo.of_free {x y : Voice} (h : y.state = .free) : x.FadesTo y :=
  ⟨fun hy => absurd h hy, fun hy => by rw [isSounding_iff, h] at hy; cases hy⟩

theorem Voice.freed_fades (x : Voice) : x.FadesTo x.freed := .of_free rfl

theorem letGo_fades {x : Voice} (h : x.state ≠ .free) (hold : Nat) (now : Tick) : x.FadesTo (letGo hold now x) := by
  unfold letGo; split
  · exact x.freed_fades
  · exact ⟨fun _ => ⟨h, rfl, rfl⟩, fun hs => by cases hs⟩

theorem Voice.isSounding_live {x : Voice} (h : x.isSounding = true) : x.state ≠ .free := by
  rw [isSounding_iff.mp h]; exact VoiceState.noConfusion

section
variable {s t u : State}

theorem voicesLawful_iff : VoicesLawful s ↔ VoicesLegal s :=
  ⟨fun ⟨hdistinct, hready, hlimits⟩ => ⟨hdistinct, fun v _ hv hn => hn ▸ hready v hv, hlimits⟩,
    fun h => ⟨h.distinct, fun v hv => h.ready v _ hv rfl, h.limits⟩⟩

/-- The same voices, records and readiness. -/
theorem VoicesFade.of_voices (hvoices : t.val.voices = s.val.voices) (hrecords : t.scn.records = s.scn.records)
    (hready : t.scn.readiness = s.scn.readiness) : VoicesFade s t :=
  ⟨fun v => by rw [hvoices]; exact .refl _, hrecords, fun _ _ _ _ h => by rw [hready]; exact h⟩

theorem VoicesFade.refl (s : State) : VoicesFade s s := .of_voices rfl rfl rfl

theorem VoicesFade.setHeld (l : List HeldKey) (s : State) : VoicesFade s (setHeld l s) := .of_voices rfl rfl rfl

theorem VoicesFade.withReg (s : State) (x : Registration) : VoicesFade s (s.withReg x) := .of_voices rfl rfl rfl

/-- Work on Section Control that leaves records and readiness. -/
theorem VoicesFade.withScn {x : SectionControl} (hrecords : x.records = s.scn.records)
    (hready : x.readiness = s.scn.readiness) : VoicesFade s (s.withScn x) := .of_voices rfl hrecords hready

theorem VoicesFade.trans (h : VoicesFade s t) (k : VoicesFade t u) : VoicesFade s u where
  voices v := (h.voices v).trans (k.voices v)
  records := k.records.trans h.records
  ready v n hv hn hs := by
    obtain ⟨ht, hsect, _⟩ := (k.voices v).live hv
    exact k.ready v n hv hn (h.ready v n ht (hsect.symm.trans hn) hs)

/-- With every voice FREE nothing is left to fade. -/
theorem VoicesFade.of_free (hfree : ∀ v : Fin 48, t.val.voices[v].state = .free) (hrecords : t.scn.records = s.scn.records) :
    VoicesFade s t :=
  ⟨fun v => .of_free (hfree v), hrecords, fun v _ hv => absurd (hfree v) hv⟩

theorem SoundStands.voicesFade (h : SoundStands s t) : VoicesFade s t :=
  .of_voices (by rw [h.val]) h.records h.readiness

theorem LevelsOnly.voicesFade (h : LevelsOnly s t) : VoicesFade s t :=
  .of_voices (by rw [h.val]) (by rw [h.scn]) (by rw [h.scn])

/-- A voice that fades alone. -/
theorem setVoice_voicesFade {v : Fin 48} {x : Voice} (h : s.val.voices[v].FadesTo x) : VoicesFade s (setVoice v x s) where
  voices w := by
    rw [setVoice_get]; split
    next hvw => exact hvw ▸ h
    · exact .refl _
  records := rfl
  ready _ _ _ _ := id

/-! ### What fading keeps -/

theorem VoicesFade.soundingIn_le (h : VoicesFade s t) (n : Fin 8) : t.soundingIn n ≤ s.soundingIn n := by
  rw [soundingIn_eq, soundingIn_eq]
  refine List.countP_mono_left fun v _ hv => ?_
  obtain ⟨hsounding, hn⟩ := Bool.and_eq_true_iff.mp hv
  obtain ⟨_, hsect, _⟩ := (h.voices v).live (Voice.isSounding_live hsounding)
  rw [Bool.and_eq_true, ← hsect]
  exact ⟨(h.voices v).sounding hsounding, hn⟩

theorem VoicesFade.distinct (h : VoicesFade s t) (hs : VoicesDistinct s) : VoicesDistinct t := fun v w hv hw hsect hpitch => by
  obtain ⟨hv', hvsect, hvpitch⟩ := (h.voices v).live hv
  obtain ⟨hw', hwsect, hwpitch⟩ := (h.voices w).live hw
  exact hs v w hv' hw' (hvsect.symm.trans (hsect.trans hwsect)) (hvpitch.symm.trans (hpitch.trans hwpitch))

theorem VoicesFade.liveInReady (h : VoicesFade s t) (hs : s.liveInReady) : t.liveInReady := fun v n hv hn => by
  obtain ⟨hv', hsect, _⟩ := (h.voices v).live hv
  exact h.ready v n hv hn (hs v n hv' (hsect.symm.trans hn))

theorem VoicesLegal.of_fade (h : VoicesLegal s) (hf : VoicesFade s t) : VoicesLegal t where
  distinct := hf.distinct h.distinct
  ready := hf.liveInReady h.ready
  limits n := by
    obtain ⟨hone, hlimit⟩ := h.limits n
    rw [hf.records]
    exact ⟨hone, (hf.soundingIn_le n).trans hlimit⟩

/-! ### Voices that end -/

theorem endVoice_voicesFade (r : NoteOffReason) (v : Fin 48) (s : State) : VoicesFade s (endVoice r v s) :=
  .trans (t := removeFromLists v (pushSection s.val.voices[v].sect _ s)) (.of_voices rfl rfl rfl)
    (setVoice_voicesFade (Voice.freed_fades _))

theorem endOldest_voicesFade (n : Fin 8) (r : NoteOffReason) (s : State) : VoicesFade s (endOldest n r s) := by
  rcases endOldest_cases n r s with he | ⟨v, _, he⟩ <;> rw [he]
  · exact .refl s
  · exact endVoice_voicesFade r v s

theorem repeat_endOldest_voicesFade (n : Fin 8) (r : NoteOffReason) (k : Nat) (s : State) :
    VoicesFade s (Nat.repeat (endOldest n r) k s) :=
  repeat_keeps .refl (fun _ _ _ => .trans) (endOldest_voicesFade n r) k s

theorem makeRoom_voicesFade (n : Fin 8) (s : State) : VoicesFade s (makeRoom n s) := by
  rcases makeRoom_cases n s with he | ⟨v, _, he⟩ <;> rw [he]
  · exact .refl s
  · exact endVoice_voicesFade .stolen v s

/-- After room is made the SOUNDING count is below the limit, which is at least 1 (R80, R128). -/
theorem VoicesLegal.makeRoom_lt (h : VoicesLegal s) (n : Fin 8) :
    (makeRoom n s).soundingIn n < (makeRoom n s).scn.records[n].polyphony := by
  obtain ⟨hone, hlimit⟩ := h.limits n
  rw [(makeRoom_voicesFade n s).records, makeRoom]
  split
  · rw [endOldest_soundingIn]; omega
  · omega

/-- A live voice released stays or fades (R133). -/
theorem releaseVoice_voicesFade {r : NoteOffReason} {v : Fin 48} (h : s.val.voices[v].state ≠ .free) :
    VoicesFade s (releaseVoice r v s) := by
  rcases Nat.lt_or_ge s.val.voices[v].holders 2 with hlast | hshared
  · rw [releaseVoice_of_last hlast]
    exact .trans (t := pushSection _ _ s) (.of_voices rfl rfl rfl) (setVoice_voicesFade (letGo_fades h _ _))
  · rw [releaseVoice_of_shared hshared]
    exact setVoice_voicesFade (.of_same rfl rfl rfl)

theorem dropAttack_voicesFade (s : State) : VoicesFade s (dropAttack s) := (raiseFlag_soundStands _ s).voicesFade

theorem shareVoice_voicesFade (k : Fin 192) (l : Fin 8) (v : Fin 48) (s : State) : VoicesFade s (shareVoice k l v s) :=
  .trans (setVoice_voicesFade (x := { s.val.voices[v] with holders := s.val.voices[v].holders + 1 }) (.of_same rfl rfl rfl))
    (.of_voices rfl rfl rfl)

end

/-! ### Voices that begin -/

section
variable {s : State} {k : Fin 192} {l n : Fin 8} {pitch : Nat} {c : NoteOnCause} {v : Fin 48}

/-- A voice that begins in a READY section under its limit, with a pitch that no other live voice of the section has. -/
theorem VoicesLegal.setVoice {x : Voice} (h : VoicesLegal s) (hx : x.isSounding = true)
    (hready : s.scn.readiness[x.sect] = .ready) (hroom : s.soundingIn x.sect < s.scn.records[x.sect].polyphony)
    (hsilent : s.val.voices[v].isSounding = false)
    (hnew : ∀ w, w ≠ v → s.val.voices[w].state ≠ .free → s.val.voices[w].sect = x.sect → s.val.voices[w].pitch ≠ x.pitch) :
    VoicesLegal (setVoice v x s) where
  distinct a b ha hb hsect hpitch := by
    rw [setVoice_get] at ha hb hsect hpitch
    rw [setVoice_get] at hsect hpitch
    by_cases hav : v = a
    · by_cases hbv : v = b
      · exact hav.symm.trans hbv
      · rw [if_neg hbv] at hb hsect hpitch
        rw [if_pos hav] at hsect hpitch
        exact absurd hpitch.symm (hnew b (Ne.symm hbv) hb hsect.symm)
    · rw [if_neg hav] at ha hsect hpitch
      by_cases hbv : v = b
      · rw [if_pos hbv] at hsect hpitch
        exact absurd hpitch (hnew a (Ne.symm hav) ha hsect)
      · rw [if_neg hbv] at hb hsect hpitch
        exact h.distinct a b ha hb hsect hpitch
  ready w n hw hn := by
    rw [setVoice_get] at hw hn
    split at hw
    next hvw => rw [if_pos hvw] at hn; exact hn ▸ hready
    next hvw => rw [if_neg hvw] at hn; exact h.ready w n hw hn
  limits m := by
    obtain ⟨hone, hlimit⟩ := h.limits m
    refine ⟨hone, ?_⟩
    have hcount := setVoice_soundingIn v x m s
    rw [hsilent, hx, Bool.false_and, Bool.true_and, if_neg Bool.false_ne_true, Nat.add_zero] at hcount
    rw [hcount]
    split
    next hm => exact beq_iff_eq.mp hm ▸ hroom
    · exact hlimit

theorem VoicesLegal.sound (h : VoicesLegal s) (hready : s.scn.readiness[n] = .ready)
    (hroom : s.soundingIn n < s.scn.records[n].polyphony) (hsilent : s.val.voices[v].isSounding = false)
    (hnew : ∀ w, w ≠ v → s.val.voices[w].state ≠ .free → s.val.voices[w].sect = n → s.val.voices[w].pitch ≠ pitch) :
    VoicesLegal (sound k l n pitch c v s) :=
  VoicesLegal.of_fade (h.setVoice (x := ⟨.sounding, n, pitch, 1, s.nextSerial⟩) rfl hready hroom hsilent hnew)
    (.of_voices rfl rfl rfl)

/-- A voice sounded once room is made, where no other voice had the pitch before. -/
theorem VoicesLegal.sound_makeRoom (h : VoicesLegal s) (hready : s.scn.readiness[n] = .ready)
    (hsilent : (makeRoom n s).val.voices[v].isSounding = false)
    (hnew : ∀ w, w ≠ v → s.val.voices[w].state ≠ .free → s.val.voices[w].sect = n → s.val.voices[w].pitch ≠ pitch) :
    VoicesLegal (Machine.sound k l n pitch c v (makeRoom n s)) := by
  have hfade := makeRoom_voicesFade n s
  have hreadiness : (makeRoom n s).scn.readiness[n] = .ready := by rw [(makeRoom_notesOnly n s).play.scn]; exact hready
  refine (h.of_fade hfade).sound hreadiness (h.makeRoom_lt n) hsilent fun w hw hlive hsect => ?_
  obtain ⟨hlive', hsect', hpitch⟩ := (hfade.voices w).live hlive
  rw [hpitch]
  exact hnew w hw hlive' (hsect'.symm.trans hsect)

theorem VoicesLegal.retrigger (h : VoicesLegal s) (hready : s.scn.readiness[n] = .ready) (hv : s.lookup n pitch = some v)
    (hsilent : s.val.voices[v].isSounding = false) : VoicesLegal (retrigger k l n pitch v s) := by
  obtain ⟨hlive, hsect, hpitch⟩ := lookup_some hv
  unfold Machine.retrigger; split
  · refine h.sound_makeRoom hready ?_ fun w hw hwlive hwsect hwpitch => hw ?_
    · rw [makeRoom_get hsilent]; exact hsilent
    · exact h.distinct w v hwlive (Voice.isFree_eq_false.mp hlive) (hwsect.trans hsect.symm) (hwpitch.trans hpitch.symm)
  · exact h.of_fade (dropAttack_voicesFade s)

theorem VoicesLegal.newVoice (h : VoicesLegal s) (hready : s.scn.readiness[n] = .ready) (hnone : s.lookup n pitch = none) :
    VoicesLegal (newVoice k l n pitch c s) := by
  unfold Machine.newVoice; split
  · dsimp only; split
    next v hv =>
      exact h.sound_makeRoom hready (roomFor_some hv) fun w _ hlive => lookup_none.mp hnone w (Voice.isFree_eq_false.mpr hlive)
    · exact h.of_fade ((makeRoom_voicesFade n s).trans (dropAttack_voicesFade _))
  · exact h.of_fade (dropAttack_voicesFade s)

theorem VoicesLegal.placePitch (h : VoicesLegal s) : VoicesLegal (placePitch k l n c pitch s) := by
  by_cases hready : s.scn.readiness[n] = .ready
  · cases hv : s.lookup n pitch with
    | none =>
      rw [placePitch_of_none hready hv]; split
      · exact h.of_fade (dropAttack_voicesFade s)
      · exact h.newVoice hready hv
    | some v =>
      rw [placePitch_of_some hready hv]
      repeat' split
      · exact h
      · exact h.of_fade (dropAttack_voicesFade s)
      · exact h.of_fade (shareVoice_voicesFade k l v s)
      next hsilent => exact h.retrigger hready hv (Bool.eq_false_iff.mpr hsilent)
  · rw [placePitch_of_not_ready hready]; exact h

theorem VoicesLegal.placeLayer {x : KeyClass} (h : VoicesLegal s) : VoicesLegal (placeLayer k x c pitch l s) := by
  rcases placeLayer_cases k x c pitch l s with he | ⟨n, t, he⟩ <;> rw [he]
  · exact h
  · exact h.placePitch

theorem VoicesLegal.attack {d : Side} (h : VoicesLegal s) : VoicesLegal (attack k d c s) :=
  List.foldlRecOn _ _ h fun _ ht _ _ => List.foldlRecOn _ _ ht fun _ hu _ _ => hu.placeLayer

theorem VoicesLegal.press (h : VoicesLegal s) : VoicesLegal (press k s) := by
  rcases press_cases k s with he | he | ⟨_, he⟩ <;> rw [he]
  · exact h
  · exact h.of_fade (raiseFlag_soundStands _ s).voicesFade
  · exact (h.of_fade (.setHeld _ s)).attack

end

end Sys2Proof.Machine
end

section
/-! ## What releases, reversals and selections keep of the voices

A voice released has to be live, which the laws of the tables say of every listed voice (R121); so both are kept together. -/

namespace Sys2Proof.Machine

/-- The tables are lawful, but for the keys whose release is still to be routed, and so are the voices. -/
structure PlayLegal (late : List (Fin 192)) (s : State) : Prop where
  tables : TablesOwing late [] 0 s
  voices : VoicesLegal s

section
variable {late : List (Fin 192)} {ps : List Pair} {s t : State} {k : Fin 192} {d : Side}

/-- The voices of pairs taken from lists are live, and released they fade. -/
theorem TablesOwing.releasePairs_fade {r : NoteOffReason} (h : TablesOwing late ps 0 s) :
    VoicesFade s (Machine.releasePairs r ps s) := by
  induction ps generalizing s with
  | nil => exact .refl s
  | cons p ps ih =>
    have hsounding : s.val.voices[p.voice].isSounding = true := by
      rw [h.sounding_iff, owed_cons, if_pos rfl]; omega
    exact (releaseVoice_voicesFade (Voice.isSounding_live hsounding)).trans (ih h.releaseVoice)

theorem TablesOwing.releaseKeyVoices_fade {r : NoteOffReason} (h : TablesOwing late [] 0 s) (hk : k ∈ s.heldKeys) :
    VoicesFade s (Machine.releaseKeyVoices r k s) :=
  .trans (.setHeld _ s) (h.emptyList hk).releasePairs_fade

theorem TablesOwing.release_fade (h : TablesOwing (k :: late) [] 0 s) : VoicesFade s (Machine.release k s) := by
  unfold Machine.release; split
  · exact .refl s
  next x he =>
    obtain ⟨hx, rfl⟩ := heldEntry_some he
    exact .trans (.setHeld _ s) (h.removeHeld hx).releasePairs_fade

/-! ### Re-attack and reversal -/

theorem PlayLegal.reattack {r : NoteOffReason} {c : NoteOnCause} (h : PlayLegal late s) (hk : k ∈ s.heldKeys) :
    PlayLegal late (reattack r c d k s) where
  tables := h.tables.reattack hk
  voices := VoicesLegal.of_fade (h.voices.of_fade (h.tables.releaseKeyVoices_fade hk)).attack (.of_voices rfl rfl rfl)

/-- A walk over the held keys whose every step keeps them and, for a held key, the laws, keeps the laws. -/
theorem PlayLegal.foldl_heldKeys {f : State → Fin 192 → State} (h : PlayLegal late s)
    (hkeys : ∀ s k, (f s k).heldKeys = s.heldKeys)
    (step : ∀ s k, PlayLegal late s → k ∈ s.heldKeys → PlayLegal late (f s k)) :
    PlayLegal late (s.heldKeys.foldl f s) :=
  (List.foldlRecOn s.heldKeys f (motive := fun t => PlayLegal late t ∧ t.heldKeys = s.heldKeys) ⟨h, rfl⟩
    fun t ht k hk => ⟨step t k ht.1 (ht.2 ▸ hk), (hkeys t k).trans ht.2⟩).1

theorem PlayLegal.revoice (h : PlayLegal late s) : PlayLegal late (revoice d s) :=
  h.foldl_heldKeys (fun s k => reattack_heldKeys _ _ d k s) fun _ _ hs hk => hs.reattack hk

/-- A voice re-articulated stays SOUNDING (R137). -/
theorem carryPair_voicesFade (start : Nat) (p : Pair) (s : State) : VoicesFade s (carryPair start p s) := by
  unfold carryPair
  repeat' split
  · have hset : VoicesFade s (setVoice p.voice { s.val.voices[p.voice] with serial := s.nextSerial } s) :=
      setVoice_voicesFade (.of_same rfl rfl rfl)
    exact hset.trans (.of_voices rfl rfl rfl)
  · exact dropAttack_voicesFade s
  · exact .refl s

theorem PlayLegal.carryKey {start : Nat} (h : PlayLegal late s) (hk : k ∈ s.heldKeys) :
    PlayLegal late (carryKey start d k s) := by
  refine ⟨h.tables.carryKey hk, ?_⟩
  unfold Machine.carryKey
  repeat' split
  · exact h.voices
  · have hpairs : ∀ ps : List Pair, VoicesFade s (ps.foldl (fun s p => carryPair start p s) s) := fun ps =>
      foldl_keeps VoicesFade.refl (fun _ _ _ => .trans) (fun s p => carryPair_voicesFade start p s) ps s
    exact h.voices.of_fade ((hpairs _).trans (.of_voices rfl rfl rfl))
  · exact (h.reattack hk).voices

theorem PlayLegal.carryAll (h : PlayLegal late s) : PlayLegal late (carryAll d s) :=
  h.foldl_heldKeys (fun t k => carryKey_heldKeys s.evq.made d k t) fun _ _ ht hk => ht.carryKey hk

/-! ### Commits and selections -/

section
variable {p : Fin 16} {c : Condition} {o : Origin}

theorem PlayLegal.commitLayers (h : PlayLegal late s) : PlayLegal late (commitLayers p c o s) where
  tables := h.tables.commitLayers
  voices := h.voices.of_fade
    (.trans (.withReg s _) (offerGeneral_soundStands (r := .registration p o c) rfl _).voicesFade)

theorem PlayLegal.commit (h : PlayLegal late s) : PlayLegal late (commit p c o s) := by
  unfold Machine.commit; dsimp only; split
  · exact h.commitLayers.revoice
  · exact h.commitLayers

theorem PlayLegal.select (h : PlayLegal late s) : PlayLegal late (select p c o s) := by
  cases c with
  | immediate => exact h.commit
  | next t => exact ⟨h.tables.select, h.voices.of_fade (.of_voices rfl rfl rfl)⟩

end

theorem PlayLegal.takeBeat {b : Bool} (h : PlayLegal late s) : PlayLegal late (takeBeat b s) := by
  unfold Machine.takeBeat
  repeat' split
  · exact h.commit
  · exact h
  · exact h

theorem PlayLegal.takeReversal (h : PlayLegal late s) : PlayLegal late (takeReversal d s) := by
  unfold Machine.takeReversal; dsimp only
  repeat' split
  · exact h.commitLayers.revoice
  · exact h.commitLayers.carryAll
  · exact h.carryAll
  · exact h.carryAll

/-! ### Key events -/

theorem PlayLegal.routePress (h : PlayLegal late s) : VoicesLegal (routePress k s) := by
  unfold Machine.routePress; split
  case h_4 =>
    unfold pressSwitch; split
    · exact h.voices
    · exact h.select.voices
  case h_5 => exact h.voices
  all_goals exact h.voices.press

theorem PlayLegal.routeRelease (h : PlayLegal (k :: late) s) : VoicesLegal (routeRelease k s) := by
  rcases routeRelease_cases k s with he | ⟨_, he⟩ <;> rw [he]
  · exact h.voices.of_fade h.tables.release_fade
  · exact h.voices

theorem EventsWait.routeEvent_voices {e : KeyEvent} {es : List KeyEvent} (h : EventsWait (e :: es) s) (hs : VoicesLegal s) :
    VoicesLegal (Machine.routeEvent s e) := by
  have htables := h.tables
  unfold Machine.routeEvent
  cases hp : e.press
  · rw [releasesOf, List.filter_cons, if_pos (by simp [hp]), List.map_cons] at htables
    exact PlayLegal.routeRelease ⟨htables, hs⟩
  · exact PlayLegal.routePress ⟨htables, hs⟩

theorem EventsWait.routeAll_voices {es rest : List KeyEvent} (h : EventsWait (es ++ rest) s) (hs : VoicesLegal s) :
    VoicesLegal (es.foldl Machine.routeEvent s) := by
  induction es generalizing s with
  | nil => exact hs
  | cons e es ih => exact ih h.routeEvent (h.routeEvent_voices hs)

theorem EventsWait.routeEvents_voices {es : List KeyEvent} (w : Option Nat) (h : EventsWait es s) (hs : VoicesLegal s) :
    VoicesLegal (Machine.routeEvents w es s) := by
  cases w with
  | none => exact EventsWait.routeAll_voices (rest := []) (by rwa [List.append_nil]) hs
  | some n =>
    have hall : EventsWait (es.take n ++ es.drop n) s := by rwa [List.take_append_drop]
    have hwritten := (hall.routeAll_voices hs).of_fade (takeWriteKeys_soundStands _).voicesFade
    exact EventsWait.routeAll_voices (rest := []) (by rw [List.append_nil]; exact hall.routeAll.takeWriteKeys) hwritten

theorem PlayLegal.completeScan {r : Readings} {w : Option Nat} (h : PlayLegal [] s) : VoicesLegal (completeScan r w s) := by
  have hksc : ∀ x, VoicesLegal (s.withKsc x) := fun x => h.voices.of_fade (.of_voices rfl rfl rfl)
  unfold Machine.completeScan; split
  · exact hksc _
  · exact (eventsWait_filtered r h.tables).routeEvents_voices w (hksc _)
  · exact (eventsWait_filtered r h.tables).routeEvents_voices w (hksc _)

/-! ### Samples and beats -/

theorem PlayLegal.heardSample {raw : Int} (h : PlayLegal late s) : PlayLegal late (heardSample raw s) where
  tables := TablesOwing.expressionSample
    (h.tables.clipCentring.of_val (t := (clipCentring raw s).withBlu (s.blu.tested raw)) rfl rfl le_rfl)
  voices := h.voices.of_fade
    (((clipCentring_soundStands raw s).trans (.withBlu _ _)).voicesFade.trans (expressionSample_levelsOnly _ _).voicesFade)

theorem PlayLegal.handReversal (h : PlayLegal late s) : PlayLegal late (handReversal d s) :=
  PlayLegal.takeReversal
    ⟨h.tables.offerGeneral _, h.voices.of_fade (offerGeneral_soundStands (r := .reversal d) rfl s).voicesFade⟩

theorem PlayLegal.judgedSample {raw : Int} (h : PlayLegal late s) : PlayLegal late (judgedSample raw s) where
  tables := (h.tables.of_val (t := collect raw s) rfl rfl le_rfl).sensorTest
  voices := h.voices.of_fade ((SoundStands.withBlu s _).trans (sensorTest_soundStands raw _)).voicesFade

theorem PlayLegal.processSample {raw : Int} (h : PlayLegal late s) : VoicesLegal (processSample raw s) := by
  have hjudged := h.judgedSample (raw := raw)
  cases hsensor : (Machine.judgedSample raw s).blu.sensor with
  | fault =>
    rw [processSample_of_fault hsensor]
    exact hjudged.voices.of_fade (expressionSample_levelsOnly _ _).voicesFade
  | ok =>
    rw [processSample_of_ok hsensor]
    rcases ordinarySample_cases raw (Machine.judgedSample raw s) with he | ⟨d, he⟩ <;> rw [he]
    · exact hjudged.heardSample.voices
    · exact hjudged.heardSample.handReversal.voices

theorem PlayLegal.beatEvent {p : ClockPhase} {c : Clock} (h : PlayLegal late s) : PlayLegal late (beatEvent p c s) := by
  rw [beatEvent_eq_takeBeat]
  exact PlayLegal.takeBeat
    ⟨(h.tables.of_val (t := s.withTck (c.beat p)) rfl rfl le_rfl).reportPhase,
      h.voices.of_fade ((SoundStands.withTck s _).trans (reportPhase_soundStands p _)).voicesFade⟩

theorem PlayLegal.acceptBeat (h : PlayLegal late s) : VoicesLegal (acceptBeat s) := by
  unfold Machine.acceptBeat; split
  · exact h.voices
  · exact h.beatEvent.voices

theorem PlayLegal.meetDeadline (h : PlayLegal late s) : VoicesLegal (meetDeadline s) := by
  unfold Machine.meetDeadline; split
  · exact h.beatEvent.voices
  · exact h.voices.of_fade ((SoundStands.withTck s _).trans (reportPhase_soundStands _ _)).voicesFade

theorem PlayLegal.selectRequest {p : List Byte} (h : PlayLegal late s) : PlayLegal late (selectRequest p s).state := by
  rcases selectRequest_state p s with he | ⟨q, c, he⟩ <;> rw [he]
  · exact h
  · exact h.select

end

end Sys2Proof.Machine
end

section
/-! ## What sections, cut, resets and every command keep of the voices -/

namespace Sys2Proof.Machine

section
variable {s t : State} {n : Fin 8}

/-! ### Sections -/

theorem setReadiness_get_ne {n m : Fin 8} (h : n ≠ m) (r : Readiness) (s : State) :
    (setReadiness n r s).scn.readiness[m] = s.scn.readiness[m] := by
  simp [setReadiness, Fin.val_ne_of_ne h]

theorem setRecord_get_ne {n m : Fin 8} (h : n ≠ m) (r : SectionRecord) (s : State) :
    (setRecord n r s).scn.records[m] = s.scn.records[m] := by
  simp [setRecord, Fin.val_ne_of_ne h]

/-- A section that was not READY, or becomes so, takes no live voice out of READY. -/
theorem setReadiness_voicesFade {r : Readiness} (h : s.scn.readiness[n] ≠ .ready ∨ r = .ready) :
    VoicesFade s (setReadiness n r s) where
  voices _ := .refl _
  records := rfl
  ready v m _ _ hs := by
    by_cases hm : n = m
    · subst hm
      rw [h.resolve_left (not_not_intro hs)]; exact setReadiness_get n .ready s
    · exact (setReadiness_get_ne hm r s).trans hs

theorem becomeReady_voicesFade (n : Fin 8) (s : State) : VoicesFade s (becomeReady n s) :=
  (setReadiness_voicesFade (.inr rfl)).trans (reportReady_levelsOnly n _).voicesFade

theorem declareReady_voicesFade (n : Fin 8) (settle : Nat) (s : State) : VoicesFade s (declareReady n settle s) := by
  by_cases h : s.scn.readiness[n] = .ready
  · rw [declareReady_of_ready h]; exact .refl s
  · rw [declareReady_of_not_ready h]; split
    · exact becomeReady_voicesFade n s
    · exact setReadiness_voicesFade (.inl h)

/-- A section that leaves READY takes its voices with it (R141). -/
theorem endSection_setReadiness_voicesFade (n : Fin 8) (r : Readiness) (s : State) :
    VoicesFade s (endSection n (setReadiness n r s)) := by
  have hscn := (endSection_notesOnly n (setReadiness n r s)).play.scn
  refine ⟨fun v => ?_, by rw [hscn]; rfl, fun v m hv hm hs => ?_⟩
  · obtain ⟨hfree, hsame⟩ := endSection_voices (n := n) (s := setReadiness n r s) v
    by_cases hn : s.val.voices[v].sect = n
    · exact .of_free (hfree hn)
    · rw [hsame hn]; exact .refl _
  · obtain ⟨hfree, hsame⟩ := endSection_voices (n := n) (s := setReadiness n r s) v
    have hne : s.val.voices[v].sect ≠ n := fun hn => hv (hfree hn)
    rw [hsame hne] at hm
    rw [hscn]
    exact (setReadiness_get_ne (fun e => hne (hm.trans e.symm)) r s).trans hs

theorem declareOff_voicesFade (n : Fin 8) (s : State) : VoicesFade s (declareOff n s) := by
  by_cases h : s.scn.readiness[n] = .ready
  · rw [declareOff_of_ready h]; exact endSection_setReadiness_voicesFade n .off s
  · rw [declareOff_of_not_ready h]; exact setReadiness_voicesFade (.inl h)

theorem sectionReady_voicesFade (p : List Byte) (s : State) : VoicesFade s (sectionReady p s).state := by
  unfold sectionReady; dsimp only
  repeat' split
  · exact .refl s
  · exact declareReady_voicesFade _ _ s
  · exact declareOff_voicesFade _ s
  · exact .refl s

/-- Under a record with a limit of at least 1 the voices above it end, and the laws stand (R80, R142). -/
theorem VoicesLegal.stealToLimit {r : SectionRecord} (h : VoicesLegal s) (hr : 1 ≤ r.polyphony) :
    VoicesLegal (stealToLimit n (setRecord n r s)) := by
  rw [stealToLimit_setRecord]
  have hfade := repeat_endOldest_voicesFade n .limit (s.soundingIn n - r.polyphony) (setRecord n r s)
  refine ⟨hfade.distinct h.distinct, hfade.liveInReady h.ready, fun m => ?_⟩
  rw [hfade.records]
  by_cases hm : n = m
  · subst hm
    have hrecord : (setRecord n r s).scn.records[n] = r := by simp [setRecord]
    have hcount : (setRecord n r s).soundingIn n = s.soundingIn n := rfl
    rw [hrecord, repeat_endOldest_soundingIn, hcount]
    exact ⟨hr, by omega⟩
  · rw [setRecord_get_ne hm]
    exact ⟨(h.limits m).1, (hfade.soundingIn_le m).trans (h.limits m).2⟩

theorem VoicesLegal.writeSection {p : List Byte} (h : VoicesLegal s) : VoicesLegal (writeSection p s).state := by
  unfold Machine.writeSection; dsimp only
  repeat' split
  · refine h.stealToLimit ?_
    rw [SectionRecord.clamped_eq_taken]; exact Nat.le_max_left ..
  · exact h
  · exact h

/-! ### Cut, Resume and resets -/

theorem cutIfNormal_voicesFade (c : CutCause) (s : State) : VoicesFade s (cutIfNormal c s) := by
  unfold cutIfNormal; split
  · exact .refl s
  · exact .of_free (beginCut_silent c s).free rfl

theorem setCut_voicesFade (b : Bool) (s : State) : VoicesFade s (setCut b s) := .withScn rfl rfl

theorem resume_voicesFade (p : List Byte) (s : State) : VoicesFade s (resume p s).state := by
  cases hcut : s.scn.cut with
  | false => rw [resume_of_normal hcut]; exact .refl s
  | true =>
    cases hline : s.scn.lastCut with
    | true => rw [resume_of_high hcut hline]; exact .refl s
    | false =>
      rw [resume_of_low hcut hline]; dsimp only
      exact (setCut_voicesFade false s).trans (reportAllReady_levelsOnly _).voicesFade

theorem softReset_voicesFade (s : State) : VoicesFade s (softReset s) := .of_free (softReset_silent s).free rfl

theorem voicesLegal_released (cause : ResetCause) (rate : LineRate) (cut : Bool) (picks : Nat) (pending : List Instr) :
    VoicesLegal (State.released cause rate cut picks pending) := by
  have hrecords : (State.released cause rate cut picks pending).scn.records = State.reset.scn.records :=
    show Vector.replicate 8 hardRecord = Vector.replicate 8 hardRecord from rfl
  exact (voicesLawful_iff.mp reset_voicesLawful).of_fade (.of_free (released_silent cause rate cut picks pending).free hrecords)

/-! ### Every command -/

/-- A request whose owner lets voices fade. -/
theorem VoicesFade.serve {kind : Byte} {len : Nat} {owner : List Byte → State → Answer}
    (he : serve kind len owner s = .next t) (fade : ∀ p s, VoicesFade s (owner p s).state) : VoicesFade s t :=
  serve_keeps (.refl s) he (fun u l h => h.trans (SoundStands.withLnk u l).voicesFade) fun p u h => h.trans (fade p u)

/-- A request whose owner keeps the laws of the voices. -/
theorem VoicesLegal.serve {kind : Byte} {len : Nat} {owner : List Byte → State → Answer} (h : VoicesLegal s)
    (he : Machine.serve kind len owner s = .next t) (keeps : ∀ p s, VoicesLegal s → VoicesLegal (owner p s).state) :
    VoicesLegal t :=
  serve_keeps h he (fun s l hs => hs.of_fade (SoundStands.withLnk s l).voicesFade) keeps

theorem execSelectPreset_keeps_play (h : PlayLegal [] s) (he : execSelectPreset s = .next t) : PlayLegal [] t :=
  serve_keeps h he
    (fun s l hs => ⟨TablesOwing.withLnk s l hs.tables, hs.voices.of_fade (SoundStands.withLnk s l).voicesFade⟩)
    fun _ _ => PlayLegal.selectRequest

theorem execResetRelease_keeps_voices {a b c : Bool} (h : VoicesLegal s) (he : execResetRelease a b c s = .next t) :
    VoicesLegal t := by
  unfold execResetRelease at he
  split at he
  · cases he; exact voicesLegal_released ..
  · cases he; exact h

theorem execReset_voicesFade (he : execReset s = .next t) : VoicesFade s t := by
  rcases takeRequest_cases he with rfl | ⟨f, rest, _, _, rfl⟩
  · exact .refl t
  · have hreply : ∀ a : Answer, VoicesFade s a.state → VoicesFade s (reply f a) := fun a ha =>
      ha.trans (SoundStands.withLnk a.state _).voicesFade
    have hinbound := (SoundStands.withInbound s rest).voicesFade
    split
    · exact (hreply _ hinbound).trans (softReset_voicesFade _)
    · exact hreply _ hinbound

theorem execCutEdge_voicesFade (he : execCutEdge s = .next t) : VoicesFade s t := by
  refine whileRunning_keeps (P := VoicesFade s) (.refl s) he ?_
  split
  · refine VoicesFade.trans ?_ (cutIfNormal_voicesFade .line _)
    exact .withScn rfl rfl
  · exact .refl s

theorem execSettleExpiry_voicesFade {m : Nat} (he : execSettleExpiry m s = .next t) : VoicesFade s t := by
  refine whileRunning_keeps (P := VoicesFade s) (.refl s) he ?_
  repeat' split
  · exact becomeReady_voicesFade _ s
  all_goals exact .refl s

theorem execReleaseExpiry_voicesFade {v : Nat} (he : execReleaseExpiry v s = .next t) : VoicesFade s t := by
  refine whileRunning_keeps (P := VoicesFade s) (.refl s) he ?_
  repeat' split
  · exact setVoice_voicesFade (Voice.freed_fades _)
  all_goals exact .refl s

theorem execScanCompletion_keeps_voices {r : ScanResult} (h : PlayLegal [] s) (he : execScanCompletion r s = .next t) :
    VoicesLegal t := by
  refine whileRunning_keeps (P := VoicesLegal) h.voices he ?_
  split
  · exact h.completeScan
  · exact h.voices

theorem execSample_keeps_voices {p : Int} (h : PlayLegal [] s) (he : execSample p s = .next t) : VoicesLegal t := by
  refine whileRunning_keeps (P := VoicesLegal) h.voices he ?_
  split
  · exact PlayLegal.processSample ⟨h.tables.of_val rfl rfl le_rfl, h.voices.of_fade (SoundStands.withBlu s _).voicesFade⟩
  · exact h.voices

theorem execBeatEdge_keeps_voices (h : PlayLegal [] s) (he : execBeatEdge s = .next t) : VoicesLegal t := by
  refine whileRunning_keeps (P := VoicesLegal) h.voices he ?_
  split
  · exact PlayLegal.acceptBeat ⟨h.tables.of_val rfl rfl le_rfl, h.voices.of_fade (SoundStands.withTck s _).voicesFade⟩
  · exact h.voices

theorem execDeadline_keeps_voices (h : PlayLegal [] s) (he : execDeadline s = .next t) : VoicesLegal t := by
  refine whileRunning_keeps (P := VoicesLegal) h.voices he ?_
  split
  · exact h.meetDeadline
  · exact h.voices

end

/-- Every command keeps the laws of the voices, where the tables are lawful. -/
theorem exec_keeps_voices (i : Instr) {s t : State} (h : PlayLegal [] s) (he : exec i s = .next t) : VoicesLegal t := by
  cases hi : worksSound i with
  | false => exact h.voices.of_fade (exec_soundStands hi he).voicesFade
  | true =>
    cases i with
    | resetRelease a b c => exact execResetRelease_keeps_voices h.voices he
    | scanCompletion r => exact execScanCompletion_keeps_voices h he
    | sample p => exact execSample_keeps_voices h he
    | beatEdge => exact execBeatEdge_keeps_voices h he
    | deadline => exact execDeadline_keeps_voices h he
    | cutEdge => exact h.voices.of_fade (execCutEdge_voicesFade he)
    | settleExpiry n => exact h.voices.of_fade (execSettleExpiry_voicesFade he)
    | releaseExpiry v => exact h.voices.of_fade (execReleaseExpiry_voicesFade he)
    | writeSection => exact h.voices.serve he fun _ _ hs => hs.writeSection
    | sectionReady => exact h.voices.of_fade (.serve he sectionReady_voicesFade)
    | cutRequest => exact h.voices.of_fade (.serve he fun _ s => cutIfNormal_voicesFade .request s)
    | resume => exact h.voices.of_fade (.serve he resume_voicesFade)
    | selectPreset => exact (execSelectPreset_keeps_play h he).voices
    | reset => exact h.voices.of_fade (execReset_voicesFade he)
    | _ => cases hi

/-- Settles O57: voices begin only where a pitch is placed, under its checks (`VoicesLegal.placePitch`); elsewhere they fade
(`VoicesFade`), the released ones being live by the laws of the tables. -/
theorem everyStepKeepsTheVoices : Obligations.EveryStepKeepsTheVoices := by
  intro s t htables hvoices hstep
  rw [tablesLawful_iff] at htables
  rw [voicesLawful_iff] at hvoices ⊢
  rcases step_cases hstep with ⟨i, picks, pending, he⟩ | rfl
  · have hplay : PlayLegal [] { s with picks := picks, pending := pending } :=
      ⟨htables.of_val rfl rfl le_rfl, hvoices.of_fade (.of_voices rfl rfl rfl)⟩
    exact exec_keeps_voices i hplay he
  · exact hvoices.of_fade (passTick_soundStands s).voicesFade

end Sys2Proof.Machine
end

section
/-! ## CancelPending, SetPresetFlags and WriteLayer (R100, R101, R103, R110) -/

namespace Sys2Proof.Machine

/-- A request whose owner writes the Registration Unit alone changes that unit and the link (R173, R174). -/
theorem serve_of_withReg {s : State} {kind tag : Byte} {p : List Byte} {rest : List Frame} {len : Nat}
    {owner : List Byte → State → Answer} {status : Status} {data : List Byte} {g : Registration}
    (ho : s.offers kind tag p rest) (hl : p.length = len)
    (ha : owner p (s.taken rest) = { state := (s.taken rest).withReg g, status := status, data := data }) :
    serve kind len owner s =
      .next { s with reg := g, lnk := s.lnk.answered rest kind tag (BitVec.ofNat 8 (statusCode status)) data } := by
  rw [serve_of_offers ho hl]
  exact congrArg (fun a => Host.Outcome.next (reply { kind := kind, tag := tag, payload := p } a)) ha

/-! ### CancelPending (R110) -/

/-- Settles O38: the owner empties the slot and answers its bytes. -/
theorem cancelPendingEmptiesTheSlot : Obligations.CancelPendingEmptiesTheSlot := by
  intro s tag rest ho
  have hexec : exec .cancelPending s = serve 0x0E 0 cancelPending s := rfl
  rw [hexec, serve_of_withReg (len := 0) (status := .done) (data := slotBytes s.reg.slot)
    (g := { s.reg with slot := none }) ho rfl rfl]
  rcases s.reg.slot with _ | ⟨q, w, o⟩
  · rfl
  · cases w <;> cases o <;> rfl

/-! ### Codes of one bit and of the range modes (R181) -/

theorem bitOfCode_eq_some {n : Nat} {b : Bool} : bitOfCode n = some b ↔ bitCode b = n := by
  constructor
  · intro h
    unfold bitOfCode at h
    split at h <;> cases h <;> rfl
  · rintro rfl
    cases b <;> rfl

theorem modeOfCode_eq_some {n : Nat} {m : RangeMode} : modeOfCode n = some m ↔ m.code = n := by
  constructor
  · intro h
    unfold modeOfCode at h
    split at h <;> cases h <;> rfl
  · rintro rfl
    cases m <;> rfl

theorem bitCode_le (b : Bool) : bitCode b ≤ 1 := by cases b <;> decide

theorem RangeMode.code_le (m : RangeMode) : m.code ≤ 1 := by cases m <;> decide

/-! ### SetPresetFlags (R103) -/

section
variable {s : State} {b v : Byte}

theorem bitOfCode_of_le {n : Nat} (h : n ≤ 1) : bitOfCode n = some (n == 1) := by
  interval_cases n <;> rfl

theorem setPresetFlags_of_legal {q : Fin 16} (hb : q.val = b.toNat) (hv : v.toNat ≤ 1) :
    setPresetFlags [b, v] s = { state := storeRevoice q (v.toNat == 1) s, status := .done, data := [b, v] } := by
  obtain ⟨q, hq⟩ := q
  cases hb
  have hbit : bitOfCode (byteAt [b, v] 1) = some (v.toNat == 1) := bitOfCode_of_le hv
  have hback : BitVec.ofNat 8 (bitCode (v.toNat == 1)) = v := by
    rw [bitOfCode_eq_some.mp hbit]; exact BitVec.ofNat_toNat 8 v
  rw [setPresetFlags, hbit]
  simp only [dif_pos (show byteAt [b, v] 0 < 16 from hq), byte1, hback]
  rfl

theorem setPresetFlags_of_illegal (h : 15 < b.toNat ∨ 1 < v.toNat) :
    setPresetFlags [b, v] s = { state := s, status := .refusedValue, data := [b, v] } := by
  have hvalue : byteAt [b, v] 1 = v.toNat := rfl
  have hpreset : byteAt [b, v] 0 = b.toNat := rfl
  unfold setPresetFlags
  split
  · rfl
  next bit hbit =>
    have hle : v.toNat ≤ 1 := hvalue ▸ bitOfCode_eq_some.mp hbit ▸ bitCode_le bit
    exact dif_neg (by omega)

end

/-- Settles O40: a legal preset and value give `storeRevoice`, any other a refusal. -/
theorem setPresetFlagsSetsRevoice : Obligations.SetPresetFlagsSetsRevoice := by
  intro s tag b v rest ho
  have hexec : exec .setPresetFlags s = serve 0x11 2 setPresetFlags s := rfl
  rw [hexec]
  exact ⟨fun q hq hv => serve_of_withReg ho rfl (setPresetFlags_of_legal hq hv),
    fun h => serve_of_unchanged ho rfl (setPresetFlags_of_illegal h)⟩

/-! ### Layer records (R97, R100, R181) -/

/-- A record's layer, field by field. -/
theorem layerOf_eq_some {r : List Byte} {l : Layer} :
    layerOf r = some l ↔
      (bitCode l.enabled = byteAt r 0 ∧ l.mode.code = byteAt r 6 ∧ bitCode l.reattack = byteAt r 7 ∧
          bitCode l.accent = byteAt r 8) ∧
        (l.mask.toNat = byteAt r 1 ∧ l.lo = byteAt r 2 ∧ l.hi = byteAt r 3 ∧ l.transpose = (r.getD 4 0).toInt ∧
          l.sect.val = byteAt r 5) ∧
        l.lo ≤ l.hi ∧ l.hi ≤ 127 := by
  unfold layerOf
  simp only [Option.bind_eq_bind, Option.bind_eq_some_iff, bitOfCode_eq_some, modeOfCode_eq_some]
  constructor
  · rintro ⟨enabled, henabled, mode, hmode, reattack, hreattack, accent, haccent, h⟩
    split at h
    next hfields =>
      obtain ⟨hmask, hwindow, hhi, _⟩ := hfields
      cases h
      exact ⟨⟨henabled, hmode, hreattack, haccent⟩,
        ⟨by rw [BitVec.toNat_ofNat]; omega, rfl, rfl, rfl, rfl⟩, hwindow, hhi⟩
    · cases h
  · obtain ⟨enabled, mask, lo, hi, transpose, sect, mode, reattack, accent⟩ := l
    rintro ⟨⟨henabled, hmode, hreattack, haccent⟩, ⟨hmask, hlo, hhi, htranspose, hsect⟩, hwindow, hlimit⟩
    dsimp only at *
    have hfields : byteAt r 1 < 8 ∧ byteAt r 2 ≤ byteAt r 3 ∧ byteAt r 3 ≤ 127 ∧ byteAt r 5 < 8 := by omega
    refine ⟨enabled, henabled, mode, hmode, reattack, hreattack, accent, haccent, ?_⟩
    rw [dif_pos hfields]
    simp only [← hmask, ← hlo, ← hhi, ← htranspose, ← hsect, BitVec.ofNat_toNat, BitVec.setWidth_eq, Fin.eta]

/-- WriteLayer takes no record that R100 does not allow. -/
theorem layerOf_of_illegal {r : List Byte} (h : ¬ LayerRecordLegal r) : layerOf r = none := by
  refine Option.eq_none_iff_forall_ne_some.mpr fun l hl => h ?_
  obtain ⟨⟨henabled, hmode, hreattack, haccent⟩, ⟨hmask, hlo, hhi, _, hsect⟩, hwindow, hlimit⟩ := layerOf_eq_some.mp hl
  exact ⟨henabled.symm.trans_le (bitCode_le _), hmask.symm.trans_le (Nat.le_of_lt_succ l.mask.isLt),
    hlo.symm.trans_le (hwindow.trans_eq hhi), hhi.symm.trans_le hlimit, hsect.symm.trans_le (Nat.le_of_lt_succ l.sect.isLt),
    hmode.symm.trans_le (RangeMode.code_le _), hreattack.symm.trans_le (bitCode_le _), haccent.symm.trans_le (bitCode_le _)⟩

/-- A layer that a request can carry reads back from its record. -/
theorem layerOf_bytes {l : Layer} (h : LayerCarried l) : layerOf l.bytes = some l := by
  obtain ⟨hwindow, hlimit, hlow, hhigh⟩ := h
  have hbit : ∀ b : Bool, bitCode b = (BitVec.ofNat 8 (bitCode b)).toNat := by decide
  have hmode : ∀ m : RangeMode, m.code = (BitVec.ofNat 8 m.code).toNat := fun m => by cases m <;> rfl
  have hmask := l.mask.isLt
  have htranspose : l.transpose = (BitVec.ofInt 8 l.transpose).toInt := by
    rw [BitVec.toInt_ofInt, Int.bmod_eq_of_le] <;> omega
  refine layerOf_eq_some.mpr ⟨⟨hbit _, hmode _, hbit _, hbit _⟩, ⟨?_, ?_, ?_, htranspose, ?_⟩, hwindow, hlimit⟩
  · exact (toNat_byte (by omega)).symm
  · exact (toNat_byte (by omega)).symm
  · exact (toNat_byte (by omega)).symm
  · exact (toNat_byte (by omega)).symm

/-! ### WriteLayer (R100, R101) -/

/-- The transpose that WriteLayer takes, as R100 says. -/
theorem Layer.clamped_eq (l : Layer) : l.clamped = { l with transpose := max (-48) (min 48 l.transpose) } := by
  rw [clamped, saturate_eq (by decide)]

theorem Layer.clamped_transpose_ne_iff {l : Layer} : (l.clamped.transpose != l.transpose) = true ↔ ¬ l.clamped = l := by
  rw [bne_iff_ne, ne_eq, not_iff_not]
  refine ⟨fun h => ?_, fun h => congrArg Layer.transpose h⟩
  have hself : l.clamped = { l with transpose := l.clamped.transpose } := rfl
  rw [hself, h]

section
variable {s : State} {b c : Byte} {record : List Byte}

theorem writeLayer_of_legal {q : Fin 16} {n : Fin 8} {l : Layer} (hb : b.toNat = q.val) (hc : c.toNat = n.val)
    (hl : layerOf record = some l) :
    writeLayer (b :: c :: record) s =
      { state := storeLayer q n l.clamped s
        status := doneOrClamped (l.clamped.transpose != l.transpose)
        data := b :: c :: l.clamped.bytes } := by
  obtain ⟨q, hq⟩ := q
  obtain ⟨n, hn⟩ := n
  cases hb
  cases hc
  have hrecord : layerOf ((b :: c :: record).drop 2) = some l := hl
  rw [writeLayer, hrecord]
  exact dif_pos ⟨hq, hn⟩

theorem writeLayer_of_illegal (h : 15 < b.toNat ∨ 7 < c.toNat ∨ ¬ LayerRecordLegal record) :
    writeLayer (b :: c :: record) s = { state := s, status := .refusedValue, data := [b, c] } := by
  have hpreset : byteAt (b :: c :: record) 0 = b.toNat := rfl
  have hlayer : byteAt (b :: c :: record) 1 = c.toNat := rfl
  have hrecord : (b :: c :: record).drop 2 = record := rfl
  rw [writeLayer, hrecord]
  cases hl : layerOf record with
  | none => rfl
  | some l =>
    have hlegal : LayerRecordLegal record := by
      by_contra hnot
      rw [layerOf_of_illegal hnot] at hl; cases hl
    exact dif_neg fun hn => by omega

end

/-- Settles O39: a carried layer reads back from its bytes, and a record that reads as some layer is legal. -/
theorem writeLayerReplacesTheRecord : Obligations.WriteLayerReplacesTheRecord := by
  refine ⟨fun s tag q n l rest hl ho => ?_, fun s tag b c record rest hlen h ho =>
    serve_of_unchanged (len := 11) ho (by rw [List.length_cons, List.length_cons, hlen]) (writeLayer_of_illegal h)⟩
  intro taken
  have htaken : taken = l.clamped := l.clamped_eq.symm
  have hexec : exec .writeLayer s = serve 0x0F 11 writeLayer s := rfl
  have hlen : (BitVec.ofNat 8 q.val :: BitVec.ofNat 8 n.val :: l.bytes).length = 11 := rfl
  rw [htaken, ← doneOrClamped_byte l.clamped_transpose_ne_iff, hexec]
  exact serve_of_withReg ho hlen (writeLayer_of_legal (toNat_byte (by omega)) (number_byte n) (layerOf_bytes hl))

end Sys2Proof.Machine
end

section
/-! ## SelectPreset (R105, R106, R108, R140) -/

namespace Sys2Proof.Machine

theorem Condition.code_next (w : Trigger) :
    (Condition.next w).code = match w with | .reversal => 1 | .beat => 2 | .bar => 3 := by
  cases w <;> rfl

/-! ### The owner (R108) -/

section
variable {s : State} {b c : Byte} {q : Fin 16}

/-- The answer of a SelectPreset: its fields, and the active preset as the request leaves it (R183). -/
def selectAnswer (b c : Byte) (status : Status) (t : State) : Answer where
  state := t
  status := status
  data := [b, c, (t.reg.activePreset.map fun q => BitVec.ofNat 8 q.val).getD 0xFF]

theorem selectAnswer_eq (status : Status) (t : State) :
    selectAnswer b c status t =
      { state := t, status := status, data := [b, c].take 2 ++ byte1 (presetCode t.reg.activePreset) } := by
  rw [byte1, preset_byte]; rfl

/-- A preset above 15 and a condition that does not exist are refused. -/
theorem selectRequest_of_illegal (h : 15 < b.toNat ∨ 3 < c.toNat) :
    selectRequest [b, c] s = selectAnswer b c .refusedValue s := by
  have hpreset : byteAt [b, c] 0 = b.toNat := rfl
  have hcondition : byteAt [b, c] 1 = c.toNat := rfl
  unfold selectRequest
  simp only [← selectAnswer_eq]
  split
  · rfl
  next x hx =>
    have hle : c.toNat ≤ 3 := hcondition ▸ conditionOfCode_eq_some.mp hx ▸ x.code_le
    exact dif_neg (by omega)

/-- What a legal preset and condition come to: refused in CUT, committed or put into the slot in NORMAL. -/
theorem selectRequest_of_legal {x : Condition} (hb : q.val = b.toNat) (hx : x.code = c.toNat) :
    selectRequest [b, c] s =
      if s.scn.cut = true then selectAnswer b c .refusedCut s
      else
        match x with
        | .immediate => selectAnswer b c .done (commit q .immediate .request s)
        | .next w =>
          selectAnswer b c (if s.reg.slot.isSome then .replaced else .accepted)
            (storeChange { preset := q, trigger := w, origin := .request } s) := by
  obtain ⟨q, hq⟩ := q
  cases hb
  have hcondition : conditionOfCode (byteAt [b, c] 1) = some x := conditionOfCode_eq_some.mpr hx
  unfold selectRequest
  simp only [← selectAnswer_eq, hcondition, dif_pos (show byteAt [b, c] 0 < 16 from hq)]
  cases x <;> rfl

theorem selectRequest_of_cut_legal (hb : b.toNat ≤ 15) (hc : c.toNat ≤ 3) (hcut : s.scn.cut = true) :
    selectRequest [b, c] s = selectAnswer b c .refusedCut s := by
  obtain ⟨x, hx⟩ := Condition.exists_code hc
  rw [selectRequest_of_legal (q := ⟨b.toNat, Nat.lt_succ_of_le hb⟩) rfl hx, if_pos hcut]

theorem selectRequest_of_waiting {w : Trigger} (hb : q.val = b.toNat) (hw : (Condition.next w).code = c.toNat)
    (hcut : s.scn.cut = false) :
    selectRequest [b, c] s =
      selectAnswer b c (if s.reg.slot.isSome then .replaced else .accepted)
        (storeChange { preset := q, trigger := w, origin := .request } s) := by
  rw [selectRequest_of_legal hb hw, if_neg (Bool.eq_false_iff.mp hcut)]

theorem selectRequest_of_immediate (hb : q.val = b.toNat) (hc : c.toNat = 0) (hcut : s.scn.cut = false) :
    selectRequest [b, c] s = selectAnswer b c .done (commit q .immediate .request s) := by
  rw [selectRequest_of_legal (x := .immediate) hb hc.symm, if_neg (Bool.eq_false_iff.mp hcut)]

end

/-- The status byte of a change that waits (R108, R175). -/
theorem waitStatus_byte (slot : Option Change) :
    BitVec.ofNat 8 (statusCode (if slot.isSome then .replaced else .accepted)) = if slot = none then 0x02 else 0x03 := by
  cases slot <;> rfl

/-! ### A commit's report and revoice (R105, R106, R140) -/

section
variable {s : State} {p : Fin 16} {c : Condition} {o : Origin}

/-- Steps 1 to 3 of a commit change the Registration Unit and hand one report to the queue. -/
theorem registered_frame (p : Fin 16) (c : Condition) (o : Origin) (s : State) :
    s.registered p c o =
      { s with
        reg := { s.reg with active := s.reg.store[p].layers, activePreset := some p, slot := none }
        evq := (s.registered p c o).evq } :=
  offerGeneral_queueOnly (.registration p o c) _

/-- With room the Registration report is made (R106, R154). -/
theorem registered_evq_of_room (h : s.soundingTotal + 1 ≤ 128 - s.fill) :
    (s.registered p c o).evq = (pushGeneral (.registration p o c) s).evq := by
  rw [State.registered, offerGeneral_of_room]
  · rfl
  · exact h

/-- Without room it is not. -/
theorem registered_evq_of_full (h : 128 - s.fill < s.soundingTotal + 1) : (s.registered p c o).evq = s.evq := by
  rw [State.registered, offerGeneral_of_full]
  exact h

theorem afterCommit_playOnly (p : Fin 16) (c : Condition) (o : Origin) (s : State) : PlayOnly s (s.afterCommit p c o) :=
  commit_eq_afterCommit p c o s ▸ commit_playOnly p c o s

theorem afterCommit_reg (p : Fin 16) (c : Condition) (o : Origin) (s : State) :
    (s.afterCommit p c o).reg =
      { s.reg with active := s.reg.store[p].layers, activePreset := some p, slot := none } :=
  commit_eq_afterCommit p c o s ▸ commit_reg p c o s

theorem afterCommit_of_clear (h : s.reg.store[p].revoice = false) : s.afterCommit p c o = s.registered p c o :=
  if_neg (Bool.eq_false_iff.mp h)

theorem afterCommit_of_revoice (h : s.reg.store[p].revoice = true) :
    s.afterCommit p c o = (s.registered p c o).reattacked .revoice .revoice (s.blu.direction.getD .push) := if_pos h

end

/-! ### The command -/

/-- An owner that does no more than a commit does, answered: the link differs by the answer (R174, R175). -/
theorem placeReply_of_playOnly {s t : State} {kind tag : Byte} {rest : List Frame} {status : Status} {data : List Byte}
    (h : PlayOnly (s.taken rest) t) :
    placeReply kind tag status data t =
      { s with
        reg := t.reg, val := t.val, evq := t.evq, stu := t.stu
        lnk := s.lnk.answered rest kind tag (BitVec.ofNat 8 (statusCode status)) data } := by
  rw [PlayOnly] at h
  generalize t.reg = reg, t.val = val, t.evq = evq, t.stu = stu at h ⊢
  cases s
  rw [h]; rfl

section
variable {s : State} {tag b c : Byte} {rest : List Frame} {q : Fin 16}

theorem exec_selectPreset (ho : s.offers 0x0D tag [b, c] rest) :
    exec .selectPreset s =
      .next (reply { kind := 0x0D, tag := tag, payload := [b, c] } (selectRequest [b, c] (s.taken rest))) :=
  serve_of_offers ho rfl

/-- IMMEDIATE commits, and the answer gives the preset back as the active one. -/
theorem exec_selectPreset_of_immediate (ho : s.offers 0x0D tag [b, c] rest) (hb : q.val = b.toNat) (hc : c.toNat = 0)
    (hcut : s.scn.cut = false) :
    exec .selectPreset s =
      .next (placeReply 0x0D tag .done [b, c, b] ((s.taken rest).afterCommit q .immediate .request)) := by
  have hback : BitVec.ofNat 8 q.val = b := by rw [hb, BitVec.ofNat_toNat]; rfl
  rw [exec_selectPreset ho, selectRequest_of_immediate (s := s.taken rest) hb hc hcut, reply, selectAnswer,
    commit_eq_afterCommit, afterCommit_reg, Option.map_some, Option.getD_some, hback]

end

/-- Settles O37: the owner refuses, puts the change into the slot, or commits; the commit is `State.afterCommit`. -/
theorem selectPresetCommitsOrWaits : Obligations.SelectPresetCommitsOrWaits := by
  intro s tag b c rest ho active
  have hexec : exec .selectPreset s = serve 0x0D 2 selectRequest s := rfl
  refine ⟨fun h => ?_, fun hb hc hcut => ?_, fun q hb hcut => ⟨fun w hw => ?_, fun hc => ?_⟩⟩
  · exact hexec ▸ serve_of_unchanged ho rfl (selectRequest_of_illegal h)
  · exact hexec ▸ serve_of_unchanged ho rfl (selectRequest_of_cut_legal hb hc hcut)
  · rw [hexec, ← waitStatus_byte]
    exact serve_of_withReg ho rfl
      (selectRequest_of_waiting (s := s.taken rest) hb (hw ▸ Condition.code_next w) hcut)
  · have hframe := registered_frame q .immediate .request (s.taken rest)
    have hplay := afterCommit_playOnly q .immediate .request (s.taken rest)
    have hreg := afterCommit_reg q .immediate .request (s.taken rest)
    refine ⟨_, (s.taken rest).registered q .immediate .request, exec_selectPreset_of_immediate ho hb hc hcut, hreg, ?_, ?_,
      fun hroom => ?_, fun hfull => ?_, fun hclear => ?_, fun hrevoice => ?_⟩
    · exact placeReply_of_playOnly hplay
    · have hreg' : (placeReply 0x0D tag .done [b, c, b] ((s.taken rest).afterCommit q .immediate .request)).reg = _ := hreg
      rw [hreg']; exact hframe
    · have hmade : ((s.taken rest).registered q .immediate .request).evq = _ := registered_evq_of_room hroom
      rw [hmade]
      exact ⟨rfl, mem_pushGeneral.mpr (.inl rfl)⟩
    · exact registered_evq_of_full hfull
    · rw [afterCommit_of_clear (s := s.taken rest) hclear]
      generalize (s.taken rest).registered q .immediate .request = u at hframe
      rw [hframe]; exact ⟨rfl, rfl, rfl⟩
    · have hcommit : (s.taken rest).afterCommit q .immediate .request =
          ((s.taken rest).registered q .immediate .request).reattacked .revoice .revoice (s.blu.direction.getD .push) :=
        afterCommit_of_revoice hrevoice
      rw [hcommit]
      generalize State.reattacked _ _ _ _ = w
      rfl

end Sys2Proof.Machine
end

section
/-! ## Folding and the attack walk (R98, R123, R124) -/

namespace Sys2Proof.Machine

/-! ### Folding (R124) -/

/-- A pitch below the range rises by the fewest octaves that bring it to `lo` or above. -/
theorem foldPitch_of_lt {lo t : Int} (h : t < lo) (hi : Int) :
    ∃ n : Int, foldPitch lo hi t = t + 12 * n ∧ lo ≤ t + 12 * n ∧ t + 12 * n < lo + 12 :=
  ⟨(lo - t + 11) / 12, if_pos h, by omega, by omega⟩

/-- A pitch above the range falls by the fewest octaves that bring it to `hi` or below. -/
theorem foldPitch_of_gt {lo hi t : Int} (hlo : lo ≤ t) (h : hi < t) :
    ∃ n : Int, foldPitch lo hi t = t + 12 * n ∧ hi - 12 < t + 12 * n ∧ t + 12 * n ≤ hi := by
  refine ⟨-((t - hi + 11) / 12), ?_, by omega, by omega⟩
  rw [foldPitch, if_neg (not_lt.mpr hlo), if_pos h]
  omega

theorem foldPitch_of_mem {lo hi t : Int} (hlo : lo ≤ t) (hhi : t ≤ hi) : foldPitch lo hi t = t := by
  rw [foldPitch, if_neg (not_lt.mpr hlo), if_neg (not_lt.mpr hhi)]

/-- Folding into a range of at least twelve pitches moves by octaves, ends in the range, and stops at the first place inside. -/
theorem foldPitch_spec {lo hi : Int} (hrange : lo + 11 ≤ hi) (t : Int) :
    (lo ≤ foldPitch lo hi t ∧ foldPitch lo hi t ≤ hi) ∧ (∃ n : Int, foldPitch lo hi t = t + 12 * n) ∧
      (lo ≤ t → t ≤ hi → foldPitch lo hi t = t) ∧ (t < lo → foldPitch lo hi t < lo + 12) ∧
      (hi < t → hi - 12 < foldPitch lo hi t) := by
  rcases lt_or_ge t lo with hbelow | hlo
  · obtain ⟨n, hn, hge, hlt⟩ := foldPitch_of_lt hbelow hi
    rw [hn]
    exact ⟨by omega, ⟨n, rfl⟩, by omega, by omega, by omega⟩
  rcases lt_or_ge hi t with habove | hhi
  · obtain ⟨n, hn, hgt, hle⟩ := foldPitch_of_gt hlo habove
    rw [hn]
    exact ⟨by omega, ⟨n, rfl⟩, by omega, by omega, by omega⟩
  · rw [foldPitch_of_mem hlo hhi]
    exact ⟨⟨hlo, hhi⟩, ⟨0, by omega⟩, fun _ _ => rfl, by omega, by omega⟩

/-! ### Ranging (R124) -/

theorem rangedPitch_of_mem {r : SectionRecord} {t : Int} (mode : RangeMode) (hlo : (r.lo : Int) ≤ t) (hhi : t ≤ (r.hi : Int)) :
    rangedPitch r mode t = some t.toNat := if_pos ⟨hlo, hhi⟩

/-- Outside the range DROP skips the pitch and FOLD folds it. -/
theorem rangedPitch_of_outside {r : SectionRecord} {t : Int} (h : t < (r.lo : Int) ∨ (r.hi : Int) < t) :
    rangedPitch r .drop t = none ∧ rangedPitch r .fold t = some (foldPitch r.lo r.hi t).toNat := by
  have hout : ¬ ((r.lo : Int) ≤ t ∧ t ≤ (r.hi : Int)) := by omega
  exact ⟨if_neg hout, if_neg hout⟩

/-! ### The walk (R98, R123) -/

/-- The classes a layer takes, by the bits of its mask (R98, R181). -/
theorem Layer.takes_iff {l : Layer} {c : KeyClass} :
    l.takes c = true ↔
      (c = KeyClass.treble ∧ l.mask.getLsbD 0 = true) ∨ (c = KeyClass.bassSingle ∧ l.mask.getLsbD 1 = true) ∨
        (c = KeyClass.bassChord ∧ l.mask.getLsbD 2 = true) := by
  cases c <;> simp [takes, maskBit]

/-- A layer reaches a pitch of its window where it is enabled and takes the key's class (R98, R123). -/
theorem Layer.reaches_iff {l : Layer} {c : KeyClass} {p : Nat} :
    l.reaches c p = true ↔ l.enabled = true ∧ l.takes c = true ∧ l.lo ≤ p ∧ p ≤ l.hi := by
  simp only [reaches, Bool.and_eq_true, decide_eq_true_eq, and_assoc]

theorem NotesOnly.imap {s t : State} (h : NotesOnly s t) : t.imap = s.imap := by rw [NotesOnly] at h; rw [h]; rfl

/-- Two walks agree whose steps agree on the states that they can come to. -/
theorem foldl_congr_of_keeps {α : Type} {P : State → Prop} {f g : State → α → State} (hfg : ∀ x a, P x → f x a = g x a)
    (hg : ∀ x a, P x → P (g x a)) (l : List α) {s : State} (hs : P s) : l.foldl f s = l.foldl g s := by
  induction l generalizing s with
  | nil => rfl
  | cons a l ih => rw [List.foldl_cons, List.foldl_cons, hfg s a hs, ih (hg s a hs)]

/-- An attack reads the class of its key once: the walk leaves the map as it was. -/
theorem attack_eq_foldl (k : Fin 192) (d : Side) (cause : NoteOnCause) (s : State) :
    attack k d cause s = (s.pitchSet k d).foldl (fun x p => placeAll k s.imap[k].cls cause p x) s := by
  have hstep : ∀ x p, State.imap x = s.imap → placeAll k x.imap[k].cls cause p x = placeAll k s.imap[k].cls cause p x :=
    fun x p hx => by rw [hx]
  have hkeeps : ∀ x p, State.imap x = s.imap → (placeAll k s.imap[k].cls cause p x).imap = s.imap :=
    fun x p hx => (placeAll_notesOnly k s.imap[k].cls cause p x).imap.trans hx
  rw [attack]
  exact foldl_congr_of_keeps hstep hkeeps _ rfl

/-- Settles O41: the fewest octaves into the range, and the walk of `attack` with each layer's conditions spelled out. -/
theorem foldingEndsInTheRange : Obligations.FoldingEndsInTheRange := by
  refine ⟨fun lo hi t hrange => foldPitch_spec hrange t, fun r mode t => ⟨rangedPitch_of_mem mode, rangedPitch_of_outside⟩,
    fun k d cause s => ?_⟩
  rw [attack_eq_foldl]
  simp only [← Layer.takes_iff, ← Layer.reaches_iff]
  cases d <;> rfl

end Sys2Proof.Machine
end

section
/-! ## Reversals: the keys carried across (R112, R135 to R138) -/

namespace Sys2Proof.Machine

/-! ### One pair (R137) -/

section
variable {s : State} {start : Nat} {p : Pair}

/-- A NoteOn of a section and pitch made since a creation order. -/
theorem Entry.isNoteOnSince_iff {n : Fin 8} {pitch : Nat} {e : Entry} :
    e.isNoteOnSince start n pitch = true ↔ start ≤ e.order ∧ ∃ y c, e.report = .noteOn n pitch y c := by
  unfold isNoteOnSince
  split
  next m q y c h =>
    simp only [Bool.and_eq_true, decide_eq_true_eq, beq_iff_eq, h, Report.noteOn.injEq, and_assoc]
    exact and_congr_right fun _ => ⟨fun ⟨hm, hq⟩ => ⟨y, c, hm, hq, rfl, rfl⟩, fun ⟨_, _, hm, hq, _, _⟩ => ⟨hm, hq⟩⟩
  next h => exact ⟨nofun, fun ⟨_, y, c, he⟩ => absurd he (h n pitch y c)⟩

/-- A voice has taken no serial where no NoteOn of it waits since (log entry 7). -/
theorem tookSerial_eq_false {x : Voice} :
    tookSerial start x s = false ↔
      ∀ e ∈ s.evq.entries, ∀ y c, start ≤ e.order → e.report ≠ .noteOn x.sect x.pitch y c := by
  rw [tookSerial, List.any_eq_false]
  simp only [Entry.isNoteOnSince_iff, not_and, not_exists]
  exact forall₂_congr fun e _ => ⟨fun h y c hs => h hs y c, fun h hs y c => h y c hs⟩

/-- When a pair's voice is to be re-articulated, as R137 says. -/
theorem mayRearticulate_iff :
    mayRearticulate start p s = true ↔
      s.reg.active[p.layer].reattack = true ∧ s.val.voices[p.voice].state = .sounding ∧
        s.scn.records[s.val.voices[p.voice].sect].lo ≤ s.val.voices[p.voice].pitch ∧
        s.val.voices[p.voice].pitch ≤ s.scn.records[s.val.voices[p.voice].sect].hi ∧
        ∀ e ∈ s.evq.entries, ∀ y c, start ≤ e.order →
          e.report ≠ .noteOn s.val.voices[p.voice].sect s.val.voices[p.voice].pitch y c := by
  simp only [mayRearticulate, Bool.and_eq_true, Bool.not_eq_true', decide_eq_true_eq, Voice.isSounding_iff,
    tookSerial_eq_false, and_assoc]

theorem carryPair_of_may_not (h : ¬ mayRearticulate start p s = true) : carryPair start p s = s := if_neg h

theorem carryPair_of_full (h : mayRearticulate start p s = true) (hfull : 128 - s.fill < s.soundingTotal + 2) :
    carryPair start p s = dropAttack s := by
  rw [carryPair, if_pos h, admitsAttack_of_full hfull]; rfl

theorem carryPair_of_room (h : mayRearticulate start p s = true) (hroom : s.soundingTotal + 2 ≤ 128 - s.fill) :
    carryPair start p s = rearticulate p s := by
  rw [carryPair, if_pos h, if_pos (admitsAttack_of_room hroom)]

/-- A re-articulation makes NoteOff and NoteOn, and the voice takes the next serial. -/
theorem rearticulate_eq {level : Nat}
    (hlevel : attackLevel s.val.voices[p.voice].sect s.reg.active[p.layer] s = level) :
    let v := s.val.voices[p.voice]
    rearticulate p s =
      { pushSection v.sect (.noteOn v.sect v.pitch level .reversal)
          (pushSection v.sect (.noteOff v.sect v.pitch .reversal) s) with
        val :=
          { s.val with
            voices := s.val.voices.set p.voice { v with serial := s.val.serial + 1 }, serial := s.val.serial + 1 } } := by
  rw [← hlevel]; rfl

/-- A layer without REATTACK re-articulates no voice. -/
theorem carryPair_of_no_reattack (h : ∀ l : Fin 8, s.reg.active[l].reattack = false) : carryPair start p s = s :=
  carryPair_of_may_not fun hmay => Bool.eq_false_iff.mp (h p.layer) (mayRearticulate_iff.mp hmay).1

end

/-! ### One key (R135 to R137) -/

section
variable {s : State} {start : Nat} {d : Side} {h : HeldKey}

/-- A key whose sets are equal keeps its voices, but for what its pairs ask (R137). -/
theorem carryKey_of_equal (he : s.heldEntry h.key = some h) (heq : s.pitchSet h.key h.side = s.pitchSet h.key d) :
    carryKey start d h.key s = setSide h.key d (h.pairs.foldl (fun s p => carryPair start p s) s) := by
  simp only [carryKey, he, if_pos heq]

/-- A key whose sets differ is re-attacked (R136). -/
theorem carryKey_of_unequal (he : s.heldEntry h.key = some h) (hne : s.pitchSet h.key h.side ≠ s.pitchSet h.key d) :
    carryKey start d h.key s = reattack .reversal .reversal d h.key s := by
  simp only [carryKey, he, if_neg hne]

/-- A re-attack releases the key's voices in list order, its list emptied, and attacks the key anew (R136, R138, R140). -/
theorem reattack_of_held {reason : NoteOffReason} {cause : NoteOnCause} (he : s.heldEntry h.key = some h) :
    reattack reason cause d h.key s =
      setSide h.key d
        (attack h.key d cause (releasePairs reason h.pairs (changePairs h.key (fun _ => []) s))) := by
  have hpairs : s.pairsOf h.key = h.pairs := by rw [State.pairsOf, he]; rfl
  rw [reattack, releaseKeyVoices, hpairs]

end

/-! ### The walk over the keys (R135) -/

/-- Every held key has the same pitch set in its own direction and in direction d, and no active layer has REATTACK. -/
def TurnsQuietly (d : Side) (s : State) : Prop :=
  (∀ h ∈ s.val.held, s.pitchSet h.key h.side = s.pitchSet h.key d) ∧ ∀ l : Fin 8, s.reg.active[l].reattack = false

section
variable {s : State} {start : Nat} {d : Side} {k : Fin 192}

/-- A key that turns quietly only changes direction. -/
theorem TurnsQuietly.carryKey (hq : TurnsQuietly d s) (k : Fin 192) : carryKey start d k s = setSide k d s := by
  obtain ⟨hsets, hlayers⟩ := hq
  cases he : s.heldEntry k with
  | none =>
    have hnone : ∀ h ∈ s.val.held, h.key ≠ k := fun h hh hk => heldEntry_eq_none.mp he (mem_heldKeys.mpr ⟨h, hh, hk⟩)
    have hsame : (s.val.held.map fun h => if h.key = k then { h with side := d } else h) = s.val.held :=
      (List.map_congr_left fun h hh => if_neg (hnone h hh)).trans (List.map_id' _)
    rw [setSide, hsame, Machine.carryKey, he]; rfl
  | some h =>
    obtain ⟨hh, rfl⟩ := heldEntry_some he
    rw [carryKey_of_equal he (hsets h hh)]
    congr 1
    exact List.foldlRecOn (motive := fun x => x = s) h.pairs _ rfl fun x hx p _ => by
      rw [hx]; exact carryPair_of_no_reattack hlayers

/-- A turned key turns quietly still. -/
theorem TurnsQuietly.setSide (hq : TurnsQuietly d s) (k : Fin 192) : TurnsQuietly d (setSide k d s) := by
  refine ⟨fun h hh => ?_, hq.2⟩
  obtain ⟨x, hx, rfl⟩ := List.mem_map.mp hh
  by_cases hk : x.key = k
  · rw [if_pos hk]
  · rw [if_neg hk]; exact hq.1 x hx

/-- Keys turned one after another: those that were named. -/
theorem foldl_setSide (d : Side) (ks : List (Fin 192)) (s : State) :
    ks.foldl (fun x k => setSide k d x) s =
      setHeld (s.val.held.map fun h => if h.key ∈ ks then { h with side := d } else h) s := by
  induction ks generalizing s with
  | nil => simp [setHeld, State.withVal]
  | cons k ks ih =>
    rw [List.foldl_cons, ih, setSide, setHeld_held, List.map_map]
    have hturn : ((fun h : HeldKey => if h.key ∈ ks then { h with side := d } else h) ∘
        fun h => if h.key = k then { h with side := d } else h) =
        fun h => if h.key ∈ k :: ks then { h with side := d } else h := by
      funext h
      by_cases hk : h.key = k <;> by_cases hks : h.key ∈ ks <;> simp [hk, hks]
    rw [hturn]; rfl

/-- A reversal at which every key turns quietly changes the directions alone. -/
theorem TurnsQuietly.carryAll (hq : TurnsQuietly d s) :
    Machine.carryAll d s = setHeld (s.val.held.map fun h => { h with side := d }) s := by
  have hwalk : Machine.carryAll d s = s.heldKeys.foldl (fun x k => Machine.setSide k d x) s :=
    foldl_congr_of_keeps (P := TurnsQuietly d) (fun _ k hx => hx.carryKey k) (fun _ k hx => hx.setSide k) _ hq
  have hall : (s.val.held.map fun h => if h.key ∈ s.heldKeys then { h with side := d } else h) =
      s.val.held.map fun h => { h with side := d } :=
    List.map_congr_left fun h hh => if_pos (mem_heldKeys.mpr ⟨h, hh, rfl⟩)
  rw [hwalk, foldl_setSide, hall]

/-- The keys are carried across in the order of the held-key table. -/
theorem carryAll_eq_foldl (d : Side) (s : State) :
    carryAll d s = s.val.held.foldl (fun x h => carryKey s.evq.made d h.key x) s := List.foldl_map

end

/-! ### The reversal (R112, R135, R138) -/

section
variable {s : State} {d : Side} {c : Change}

/-- With no NEXT_REVERSAL change in the slot a reversal is the walk over the keys. -/
theorem takeReversal_of_no_change (h : ∀ c, s.reg.slot = some c → c.trigger ≠ .reversal) :
    takeReversal d s = carryAll d s := by
  unfold takeReversal
  split
  next c hslot => exact if_neg (h c hslot)
  · rfl

/-- A waiting NEXT_REVERSAL change is committed first; REVOICE decides what becomes of the keys. -/
theorem takeReversal_of_change (hslot : s.reg.slot = some c) (hc : c.trigger = .reversal) :
    takeReversal d s =
      if s.reg.store[c.preset].revoice = true then
        (s.registered c.preset (.next .reversal) c.origin).reattacked .revoice .revoice d
      else carryAll d (s.registered c.preset (.next .reversal) c.origin) := by
  have hdone : commitLayers c.preset (.next .reversal) c.origin s = s.registered c.preset (.next .reversal) c.origin := rfl
  have hreg : (s.registered c.preset (.next .reversal) c.origin).reg.store = s.reg.store := by
    rw [registered_frame]
  have hrevoice : ∀ t, revoice d t = t.reattacked .revoice .revoice d := fun t => List.foldl_map
  simp only [takeReversal, hslot, if_pos hc, hdone, hreg, hrevoice]

/-- The commit of a change leaves the slot empty. -/
theorem registered_slot (p : Fin 16) (x : Condition) (o : Origin) (s : State) : (s.registered p x o).reg.slot = none := by
  rw [registered_frame]

end

/-- Settles O47: `takeReversal` commits and walks, `carryKey` turns or re-attacks, and `carryPair` re-articulates. -/
theorem reversalKeepsKeysWithEqualSets : Obligations.ReversalKeepsKeysWithEqualSets := by
  refine ⟨fun s d hslot hlayers hsets => ?_, fun s d => ⟨fun c hslot hc => ⟨fun hrevoice => ?_, fun hclear => ?_⟩,
    fun hnone => ?_⟩, fun x start d h he => ?_, fun x start p => ?_⟩
  · have hnone : ∀ c, s.reg.slot = some c → c.trigger ≠ .reversal := fun c hc => by rw [hslot] at hc; cases hc
    rw [takeReversal_of_no_change hnone, TurnsQuietly.carryAll ⟨hsets, hlayers⟩]; rfl
  · rw [takeReversal_of_change hslot hc, if_pos hrevoice]
  · have hempty : ∀ c', (s.registered c.preset (.next .reversal) c.origin).reg.slot = some c' → c'.trigger ≠ .reversal :=
      fun c' h => by rw [registered_slot] at h; cases h
    rw [takeReversal_of_change hslot hc, if_neg (Bool.eq_false_iff.mp hclear), takeReversal_of_no_change hempty]
  · rw [takeReversal_of_no_change hnone, carryAll_eq_foldl]
  · exact ⟨carryKey_of_unequal he, carryKey_of_equal he, fun reason cause => reattack_of_held he⟩
  · intro v level may
    have hmay : mayRearticulate start p x = true ↔ may := mayRearticulate_iff
    refine ⟨fun h => carryPair_of_may_not (mt hmay.mp h), fun h hfull => carryPair_of_full (hmay.mpr h) hfull,
      fun h hroom => ?_⟩
    rw [carryPair_of_room (hmay.mpr h) hroom]
    exact rearticulate_eq (attackLevel_eq ..)

end Sys2Proof.Machine
end

section
/-! ## Voices that end: the last release, the oldest of a section, the release expiry (R129, R133, R134, R141, R142) -/

namespace Sys2Proof.Machine

section
variable {n : Fin 8} {v : Fin 48} {reason : NoteOffReason} {s : State}

/-! ### A release (R133) -/

/-- A voice let go by its last holder, as R133 reads. -/
theorem letGo_eq (hold : Nat) (now : Tick) (x : Voice) :
    letGo hold now x =
      { x with state := if hold = 0 then .free else .releasing (now + BitVec.ofNat 32 (hold * 10)), holders := 0 } := by
  unfold letGo
  split <;> rfl

/-- The last holder's release: its NoteOff joins the queue, and the voice is let go for the hold of its section. -/
theorem releaseVoice_eq_of_last (h : s.val.voices[v].holders < 2) :
    let x := s.val.voices[v]
    let hold := s.scn.records[x.sect].releaseHold
    releaseVoice reason v s =
      { pushSection x.sect (.noteOff x.sect x.pitch reason) s with
        val :=
          { s.val with
            voices :=
              s.val.voices.set v
                { x with
                  state := if hold = 0 then .free else .releasing (s.tick + BitVec.ofNat 32 (hold * 10))
                  holders := 0 } } } := by
  intro x hold
  rw [releaseVoice_of_last h, letGo_eq]
  rfl

/-! ### The oldest SOUNDING voice of a section (R119, R129, R141, R142) -/

/-- Where a voice passes a test there is an oldest that does, and its serial is the smallest of those that do (R119). -/
theorem exists_oldest {passes : Voice → Bool} (h : ∃ w : Fin 48, passes s.val.voices[w] = true) :
    ∃ v : Fin 48, s.oldest passes = some v ∧ passes s.val.voices[v] = true ∧
      ∀ w : Fin 48, passes s.val.voices[w] = true → s.val.voices[v].serial ≤ s.val.voices[w].serial := by
  obtain ⟨w, hw⟩ := h
  cases ho : s.oldest passes with
  | none => exact absurd hw (Bool.eq_false_iff.mp (oldest_none ho w))
  | some v => exact ⟨v, rfl, oldest_some ho⟩

/-- A section's SOUNDING voices are those that the search of `endOldest` takes. -/
theorem Voice.isSounding_and_sect_iff {x : Voice} : (x.isSounding && x.sect == n) = true ↔ x.state = .sounding ∧ x.sect = n := by
  rw [Bool.and_eq_true, Voice.isSounding_iff, beq_iff_eq]

theorem endOldest_of_oldest (h : s.oldest (fun x => x.isSounding && x.sect == n) = some v) :
    endOldest n reason s = endVoice reason v s := by
  rw [endOldest, h]

/-- A voice of the section ended: its NoteOff, its entry FREE, and the lists without it; nothing else. -/
theorem endVoice_eq (hn : s.val.voices[v].sect = n) :
    endVoice reason v s =
      { pushSection n (.noteOff n s.val.voices[v].pitch reason) s with
        val :=
          { s.val with
            voices := s.val.voices.set v { s.val.voices[v] with state := .free, holders := 0 }
            held := s.val.held.map fun h => { h with pairs := h.pairs.filter fun p => p.voice != v } } } := by
  subst hn
  rfl

/-- A SOUNDING voice that was ended stands in no list, and its NoteOff waits. -/
theorem endVoice_unlisted_noteOff (hv : s.val.voices[v].isSounding = true) (hn : s.val.voices[v].sect = n) :
    (endVoice reason v s).unlisted v ∧
      ∃ e ∈ (endVoice reason v s).evq.entries, e.report = .noteOff n s.val.voices[v].pitch reason := by
  rcases (endVoice_voicesEnded (reason := reason) hv hn).voices v with hsame | ⟨_, _, _, hoff, hunlisted⟩
  · rw [endVoice_get, if_pos rfl] at hsame
    rw [← hsame] at hv
    cases hv
  · exact ⟨hunlisted, hoff⟩

/-! ### The release expiry (R134) -/

/-- The release expiry of a RELEASING voice of a running part frees it, once it has come. -/
theorem exec_releaseExpiry {d : Tick} (hr : s.inReset = none) (hd : s.val.voices[v].state = .releasing d) :
    exec (.releaseExpiry v.val) s = .next (if s.reached d then setVoice v s.val.voices[v].freed s else s) := by
  have harm : exec (.releaseExpiry v.val) s = execReleaseExpiry v.val s := rfl
  have hd' : s.val.voices[v.val].state = .releasing d := hd
  rw [harm, execReleaseExpiry, whileRunning_of_running hr, dif_pos v.isLt]
  simp only [hd', hasCome_iff]
  rfl

end

/-- Settles O44: with another holder left only the count changes; the last one's release is `releaseVoice_eq_of_last`, whose NoteOff
is in the queue it leaves. -/
theorem releasingAVoice : Obligations.ReleasingAVoice := by
  intro s reason v x hold t
  refine ⟨releaseVoice_of_shared, fun hlast => ?_⟩
  have ht : t = _ := releaseVoice_eq_of_last (reason := reason) (show x.holders < 2 by omega)
  refine ⟨ht, ?_⟩
  rw [ht]
  exact ⟨_, mem_pushSection.mpr (.inl rfl), rfl⟩

/-- Settles O45: the search finds a SOUNDING voice of the section with the smallest serial, and `endVoice` ends it. -/
theorem endingTheOldestVoice : Obligations.EndingTheOldestVoice := by
  intro s n reason hsome
  obtain ⟨v, holdest, hv, hserial⟩ :=
    exists_oldest (passes := fun x => x.isSounding && x.sect == n)
      (hsome.imp fun _ => Voice.isSounding_and_sect_iff.mpr)
  obtain ⟨hsounds, hsect⟩ := Voice.isSounding_and_sect_iff.mp hv
  refine ⟨v, ⟨hsounds, hsect⟩, fun w hs hn => hserial w (Voice.isSounding_and_sect_iff.mpr ⟨hs, hn⟩), ?_⟩
  rw [endOldest_of_oldest holdest]
  exact ⟨endVoice_eq hsect, endVoice_unlisted_noteOff (Voice.isSounding_iff.mpr hsounds) hsect⟩

/-- Settles O46: `exec_releaseExpiry` decides by whether the expiry has come. -/
theorem releaseExpiryFreesTheVoice : Obligations.ReleaseExpiryFreesTheVoice := by
  intro s v d hr hd
  rw [exec_releaseExpiry hr hd]
  refine ⟨fun hcome => ?_, fun hwait => ?_⟩
  · rw [if_pos hcome]; rfl
  · rw [if_neg hwait]

end Sys2Proof.Machine
end

section
/-! ## The order of the Event Queue (R147 to R151, R156, R157) -/

namespace Sys2Proof.Machine

/-! ### Due ticks near now -/

/-- A tick lies near now, so that wrap-aware comparison orders it among others that do (R148). -/
abbrev NearNow (now t : Tick) : Prop := -1000000 ≤ wrapDiff t now ∧ wrapDiff t now ≤ 1000000

section
variable {now a b : Tick}

/-- Near now, the wrap-aware difference of two ticks is the difference of their distances from now. -/
theorem wrapDiff_of_near (ha : NearNow now a) (hb : NearNow now b) : wrapDiff a b = wrapDiff a now - wrapDiff b now := by
  obtain ⟨_, _⟩ := ha
  obtain ⟨_, _⟩ := hb
  have hsplit : a - b = (a - now) - (b - now) := by bv_omega
  have hbmod : wrapDiff a b = (wrapDiff a now - wrapDiff b now).bmod (2 ^ 32) := by
    rw [wrapDiff, hsplit, BitVec.toInt_sub]; rfl
  rw [hbmod, Int.bmod_eq_of_le (by omega) (by omega)]

@[simp] theorem wrapDiff_self (t : Tick) : wrapDiff t t = 0 := by simp [wrapDiff]

theorem wrapDiff_eq_zero : wrapDiff a b = 0 ↔ a = b := by
  have hzero : (a - b).toInt = 0 ↔ a - b = 0 := by rw [← BitVec.toInt_inj]; rfl
  rw [wrapDiff, hzero]
  constructor <;> intro h <;> bv_omega

theorem nearNow_self (t : Tick) : NearNow t t := by simp [NearNow]

/-- A tick a number of ticks after now lies that far ahead. -/
theorem wrapDiff_add_ofNat {n : Nat} (h : n ≤ 400) : wrapDiff (now + BitVec.ofNat 32 n) now = n := by
  have hsub : now + BitVec.ofNat 32 n - now = BitVec.ofNat 32 n := by bv_omega
  rw [wrapDiff, hsub, BitVec.toInt_ofNat', Int.bmod_eq_of_le (by omega) (by omega)]

/-- A tick later every tick near now is one tick less ahead. -/
theorem wrapDiff_next (h : NearNow now a) : wrapDiff a (now + 1) = wrapDiff a now - 1 := by
  have hnow : wrapDiff (now + 1) now = 1 := wrapDiff_add_ofNat (n := 1) (by decide)
  rw [wrapDiff_of_near h (by simp only [NearNow, hnow]; omega), hnow]

end

/-! ### The order of entries (R148, R159) -/

/-- Two entries may stand in this order: no AllOff behind another entry, and behind any other no earlier due tick, and no earlier
creation at one due tick or in one section. -/
def Entry.Precedes (a b : Entry) : Prop :=
  b.isAllOff = false ∧
    (a.isAllOff = false →
      0 ≤ wrapDiff b.due a.due ∧ (a.due = b.due → a.order < b.order) ∧
        (a.report.section? ≠ none → a.report.section? = b.report.section? → a.order < b.order))

/-- Placing an entry keeps a relation that it has with those it passes and with those it stops at, when whoever stands behind one
that it stops at would stop it too. -/
theorem pairwise_insertEntry {R : Entry → Entry → Prop} {e : Entry} {l : List Entry} (hl : l.Pairwise R)
    (hpass : ∀ x ∈ l, x.isAllOff = true ∨ hasCome e.due x.due = true → R x e)
    (hstop : ∀ x ∈ l, x.isAllOff = false → hasCome e.due x.due = false → R e x)
    (hlast : ∀ x ∈ l, ∀ y ∈ l, R x y → x.isAllOff = false → hasCome e.due x.due = false →
      y.isAllOff = false ∧ hasCome e.due y.due = false) :
    (insertEntry e l).Pairwise R := by
  induction l with
  | nil => exact List.pairwise_singleton R e
  | cons x xs ih =>
    obtain ⟨hx, hxs⟩ := List.pairwise_cons.mp hl
    have hmem : ∀ {y}, y ∈ xs → y ∈ x :: xs := List.mem_cons_of_mem x
    unfold insertEntry
    split
    next hpasses =>
      refine List.pairwise_cons.mpr ⟨fun y hy => ?_, ?_⟩
      · rcases mem_insertEntry.mp hy with rfl | hy
        · exact hpass x List.mem_cons_self (Bool.or_eq_true _ _ ▸ hpasses)
        · exact hx y hy
      · exact ih hxs (fun y hy => hpass y (hmem hy)) (fun y hy => hstop y (hmem hy))
          fun y hy z hz => hlast y (hmem hy) z (hmem hz)
    next hstops =>
      obtain ⟨hoff, hlater⟩ := Bool.or_eq_false_iff.mp (Bool.eq_false_iff.mpr hstops)
      refine List.pairwise_cons.mpr ⟨fun y hy => ?_, hl⟩
      rcases List.mem_cons.mp hy with rfl | hy
      · exact hstop y List.mem_cons_self hoff hlater
      · obtain ⟨hyoff, hylater⟩ := hlast x List.mem_cons_self y (hmem hy) (hx y hy) hoff hlater
        exact hstop y (hmem hy) hyoff hylater

/-- An entry made last, and due no earlier than those of its section, is placed in order (R148). -/
theorem precedes_insertEntry {now : Tick} {e : Entry} {l : List Entry} (hl : l.Pairwise Entry.Precedes)
    (hnear : ∀ x ∈ l, NearNow now x.due) (he : NearNow now e.due) (hoff : e.isAllOff = false)
    (hmade : ∀ x ∈ l, x.order < e.order)
    (hsect : ∀ x ∈ l, e.report.section? ≠ none → e.report.section? = x.report.section? → 0 ≤ wrapDiff e.due x.due) :
    (insertEntry e l).Pairwise Entry.Precedes := by
  have hcome : ∀ x : Entry, hasCome e.due x.due = false ↔ wrapDiff e.due x.due < 0 := fun x => by
    rw [hasCome, decide_eq_false_iff_not, Int.not_le]
  refine pairwise_insertEntry hl (fun x hx hpasses => ?_) (fun x hx hxoff hlater => ?_)
    fun x hx y hy hxy hxoff hlater => ?_
  · refine ⟨hoff, fun hxoff => ⟨?_, fun _ => hmade x hx, fun _ _ => hmade x hx⟩⟩
    exact of_decide_eq_true (hpasses.resolve_left (Bool.eq_false_iff.mp hxoff))
  · have hlt := (hcome x).mp hlater
    refine ⟨hxoff, fun _ => ⟨?_, fun hdue => ?_, fun hs hsame => ?_⟩⟩
    · rw [wrapDiff_of_near (hnear x hx) he]
      rw [wrapDiff_of_near he (hnear x hx)] at hlt
      omega
    · rw [hdue, wrapDiff_self] at hlt; omega
    · exact absurd (hsect x hx hs hsame) (by omega)
  · obtain ⟨hyoff, hbehind⟩ := hxy
    have hle := (hbehind hxoff).1
    have hlt := (hcome x).mp hlater
    rw [wrapDiff_of_near (hnear y hy) (hnear x hx)] at hle
    rw [wrapDiff_of_near he (hnear x hx)] at hlt
    refine ⟨hyoff, (hcome y).mpr ?_⟩
    rw [wrapDiff_of_near he (hnear y hy)]
    omega

/-! ### A queue in order -/

/-- The latest due tick that a waiting entry of a section can have: the section's last-due, or now when that has come (R149). -/
def EventQueue.horizon (now : Tick) (n : Fin 8) (q : EventQueue) : Tick := if q.ahead[n] = true then q.lastDue[n] else now

/-- The order of the queue at a tick, with what keeps it (R147 to R149, R159). -/
structure EventQueue.Orderly (now : Tick) (q : EventQueue) : Prop where
  ordered : q.entries.Pairwise Entry.Precedes
  made : ∀ e ∈ q.entries, e.order < q.made
  ahead : ∀ n : Fin 8, q.ahead[n] = true → 0 < wrapDiff q.lastDue[n] now ∧ wrapDiff q.lastDue[n] now ≤ 400
  within : ∀ e ∈ q.entries, ∀ n, e.report.section? = some n → 0 ≤ wrapDiff (q.horizon now n) e.due
  near : ∀ e ∈ q.entries, NearNow now e.due

/-- Every alignment is at most 400 ticks (R80). -/
abbrev AlignmentsLegal (s : State) : Prop := ∀ n : Fin 8, s.scn.records[n].alignment ≤ 400

/-- The law of the queue's order. -/
structure Orderly (s : State) : Prop where
  queue : s.evq.Orderly s.tick
  alignments : AlignmentsLegal s

theorem orderly_iff {s : State} : Orderly s ↔ QueueOrdered s ∧ DuesLawful s ∧ DuesNear s :=
  ⟨fun ⟨⟨hordered, hmade, hahead, hwithin, hnear⟩, halign⟩ => ⟨hordered, ⟨hmade, halign, hahead, hwithin⟩, hnear⟩,
    fun ⟨hordered, ⟨hmade, halign, hahead, hwithin⟩, hnear⟩ => ⟨⟨hordered, hmade, hahead, hwithin, hnear⟩, halign⟩⟩

section
variable {now : Tick} {q : EventQueue} {s : State} {n : Fin 8} {r : Report} {e : Entry}

/-- A queue with the entries that are left of an orderly one. -/
theorem EventQueue.Orderly.sublist {l : List Entry} (h : q.Orderly now) (hl : l.Sublist q.entries) :
    EventQueue.Orderly now { q with entries := l } where
  ordered := h.ordered.sublist hl
  made e he := h.made e (hl.subset he)
  ahead := h.ahead
  within e he := h.within e (hl.subset he)
  near e he := h.near e (hl.subset he)

/-- The horizon lies from now to 400 ticks ahead. -/
theorem EventQueue.Orderly.horizon_ahead (h : q.Orderly now) (n : Fin 8) :
    0 ≤ wrapDiff (q.horizon now n) now ∧ wrapDiff (q.horizon now n) now ≤ 400 := by
  unfold EventQueue.horizon
  split
  next ha =>
    obtain ⟨_, _⟩ := h.ahead n ha
    omega
  · rw [wrapDiff_self]; omega

/-- A new entry is placed in order when it is due no earlier than the horizon of its section (R148). -/
theorem EventQueue.Orderly.place (h : q.Orderly now) (hmade : e.order = q.made) (hoff : e.isAllOff = false)
    (hnear : NearNow now e.due)
    (hdue : ∀ n, e.report.section? = some n → wrapDiff (q.horizon now n) now ≤ wrapDiff e.due now) :
    (insertEntry e q.entries).Pairwise Entry.Precedes := by
  refine precedes_insertEntry h.ordered h.near hnear hoff (fun x hx => hmade ▸ h.made x hx) fun x hx hs hsame => ?_
  obtain ⟨n, hn⟩ := Option.ne_none_iff_exists'.mp hs
  obtain ⟨hlow, hhigh⟩ := h.horizon_ahead n
  have hwithin := h.within x hx n (hsame ▸ hn)
  have hle := hdue n hn
  rw [wrapDiff_of_near ⟨by omega, by omega⟩ (h.near x hx)] at hwithin
  rw [wrapDiff_of_near hnear (h.near x hx)]
  omega

/-- A section report is due from now to 400 ticks ahead, and not before the section's horizon (R149). -/
theorem Orderly.dueTick (h : Orderly s) (n : Fin 8) :
    wrapDiff (s.evq.horizon s.tick n) s.tick ≤ wrapDiff (s.dueTick n) s.tick ∧ 0 ≤ wrapDiff (s.dueTick n) s.tick ∧
      wrapDiff (s.dueTick n) s.tick ≤ 400 := by
  have hearliest := wrapDiff_add_ofNat (now := s.tick) (h.alignments n)
  have halign := h.alignments n
  unfold EventQueue.horizon
  rcases dueTick_cases n s with ⟨ha, _, hd⟩ | ⟨hnot, hd⟩
  · obtain ⟨_, _⟩ := h.queue.ahead n ha
    rw [hd, if_pos ha]
    omega
  · rw [hd, hearliest]
    refine ⟨?_, by omega, by omega⟩
    split
    next ha =>
      obtain ⟨_, _⟩ := h.queue.ahead n ha
      have hle := hnot.resolve_left (by rw [ha]; decide)
      rw [wrapDiff_of_near (now := s.tick) ⟨by omega, by omega⟩ ⟨by omega, by omega⟩, hearliest] at hle
      omega
    · rw [wrapDiff_self]; omega

/-- After a section report the section's last-due is the report's due tick, ahead unless it is now (R149). -/
theorem pushSection_get (n m : Fin 8) (r : Report) (s : State) :
    (pushSection n r s).evq.lastDue[m] = (if m = n then s.dueTick n else s.evq.lastDue[m]) ∧
      (pushSection n r s).evq.ahead[m] = if m = n then s.dueTick n != s.tick else s.evq.ahead[m] := by
  constructor <;> simp [Vector.getElem_set, Fin.ext_iff, eq_comm]

/-- After a section report the section's horizon is the report's due tick. -/
theorem pushSection_horizon (n m : Fin 8) (r : Report) (s : State) :
    (pushSection n r s).evq.horizon s.tick m = if m = n then s.dueTick n else s.evq.horizon s.tick m := by
  obtain ⟨hlast, hahead⟩ := pushSection_get n m r s
  unfold EventQueue.horizon
  rw [hlast, hahead]
  by_cases hm : m = n
  · by_cases hd : s.dueTick n = s.tick <;> simp [hm, hd]
  · simp [hm]

@[simp] theorem pushSection_tick (n : Fin 8) (r : Report) (s : State) : (pushSection n r s).tick = s.tick := rfl

theorem Orderly.pushSection (h : Orderly s) (hr : r.section? = some n) : Orderly (pushSection n r s) := by
  obtain ⟨hhorizon, hlow, hhigh⟩ := h.dueTick n
  have hnear : NearNow s.tick (s.dueTick n) := ⟨by omega, by omega⟩
  refine ⟨⟨?_, fun e he => ?_, fun m hm => ?_, fun e he m hm => ?_, fun e he => ?_⟩, h.alignments⟩
  · refine h.queue.place rfl ?_ hnear fun m hm => ?_
    · cases r with
      | allOff => cases hr
      | _ => rfl
    · obtain rfl : n = m := Option.some.inj (hr.symm.trans hm)
      exact hhorizon
  · rcases mem_pushSection.mp he with rfl | he
    · exact Nat.lt_succ_self _
    · exact (h.queue.made e he).trans (Nat.lt_succ_self _)
  · obtain ⟨hlast, hahead⟩ := pushSection_get n m r s
    rw [hahead] at hm
    rw [hlast, pushSection_tick]
    by_cases hmn : m = n
    · rw [if_pos hmn, bne_iff_ne, ← wrapDiff_eq_zero.ne] at hm
      rw [if_pos hmn]
      omega
    · rw [if_neg hmn] at hm ⊢
      exact h.queue.ahead m hm
  · rw [pushSection_tick, pushSection_horizon]
    rcases mem_pushSection.mp he with rfl | hwaits
    · obtain rfl : n = m := Option.some.inj (hr.symm.trans hm)
      rw [if_pos rfl, wrapDiff_self]
    · have hwithin := h.queue.within e hwaits m hm
      split
      next hmn =>
        subst hmn
        obtain ⟨_, _⟩ := h.queue.horizon_ahead m
        rw [wrapDiff_of_near ⟨by omega, by omega⟩ (h.queue.near e hwaits)] at hwithin
        rw [wrapDiff_of_near hnear (h.queue.near e hwaits)]
        omega
      · exact hwithin
  · rcases mem_pushSection.mp he with rfl | he
    · exact hnear
    · exact h.queue.near e he

theorem Orderly.pushGeneral (h : Orderly s) (hr : r.section? = none) (hoff : ∀ c, r ≠ .allOff c) :
    Orderly (pushGeneral r s) := by
  have hnow : NearNow s.tick s.tick := nearNow_self s.tick
  refine ⟨⟨?_, fun e he => ?_, h.queue.ahead, fun e he m hm => ?_, fun e he => ?_⟩, h.alignments⟩
  · refine h.queue.place rfl ?_ hnow fun m hm => absurd (hr.symm.trans hm) (by simp)
    cases r with
    | allOff c => exact absurd rfl (hoff c)
    | _ => rfl
  · rcases mem_pushGeneral.mp he with rfl | he
    · exact Nat.lt_succ_self _
    · exact (h.queue.made e he).trans (Nat.lt_succ_self _)
  · rcases mem_pushGeneral.mp he with rfl | he
    · cases hr.symm.trans hm
    · exact h.queue.within e he m hm
  · rcases mem_pushGeneral.mp he with rfl | he
    · exact hnow
    · exact h.queue.near e he

/-- An entry as the replacement of its section's level leaves it (R151). -/
def Entry.relevelled (n : Fin 8) (l : Nat) (e : Entry) : Entry :=
  if e.isDynamicOf n then { e with report := .dynamic n l } else e

theorem Entry.relevelled_stands (n : Fin 8) (l : Nat) (e : Entry) :
    (e.relevelled n l).due = e.due ∧ (e.relevelled n l).order = e.order ∧
      (e.relevelled n l).report.section? = e.report.section? ∧ (e.relevelled n l).isAllOff = e.isAllOff := by
  unfold Entry.relevelled
  split
  next hd =>
    obtain ⟨l', hr⟩ := Entry.isDynamicOf_iff.mp hd
    simp [Entry.isAllOff, Report.section?, hr]
  · exact ⟨rfl, rfl, rfl, rfl⟩

theorem Entry.relevelled_isDynamicOf (n m : Fin 8) (l : Nat) (e : Entry) :
    (e.relevelled n l).isDynamicOf m = e.isDynamicOf m := by
  unfold Entry.relevelled
  split
  next hd => exact Entry.isDynamicOf_replaced hd l m
  · rfl

theorem replaceDynamic_entries (n : Fin 8) (l : Nat) (s : State) :
    (replaceDynamic n l s).evq.entries = s.evq.entries.map (Entry.relevelled n l) := rfl

theorem Orderly.replaceDynamic {l : Nat} (h : Orderly s) : Orderly (replaceDynamic n l s) := by
  have hmem : ∀ {P : Entry → Prop}, (∀ e ∈ s.evq.entries, P (e.relevelled n l)) →
      ∀ e ∈ (Machine.replaceDynamic n l s).evq.entries, P e := fun hP => by
    rw [replaceDynamic_entries]; exact List.forall_mem_map.mpr hP
  refine ⟨⟨?_, hmem fun e he => ?_, h.queue.ahead, hmem fun e he m hm => ?_, hmem fun e he => ?_⟩, h.alignments⟩
  · rw [replaceDynamic_entries]
    refine List.pairwise_map.mpr (h.queue.ordered.imp fun {a b} hab => ?_)
    obtain ⟨hadue, haorder, hasect, haoff⟩ := a.relevelled_stands n l
    obtain ⟨hbdue, hborder, hbsect, hboff⟩ := b.relevelled_stands n l
    rw [Entry.Precedes, hadue, haorder, hasect, haoff, hbdue, hborder, hbsect, hboff]
    exact hab
  all_goals obtain ⟨hdue, horder, hsect, _⟩ := e.relevelled_stands n l
  · rw [horder]; exact h.queue.made e he
  · rw [hdue]; rw [hsect] at hm; exact h.queue.within e he m hm
  · rw [hdue]; exact h.queue.near e he

/-- An AllOff stands at the head of whatever order no AllOff is in. -/
theorem pairwise_allOff {c : AllOffCause} {now : Tick} {k : Nat} {l : List Entry} (hl : l.Pairwise Entry.Precedes)
    (hoff : ∀ e ∈ l, e.isAllOff = false) :
    ({ report := .allOff c, due := now, order := k } :: l).Pairwise Entry.Precedes :=
  List.pairwise_cons.mpr ⟨fun e he => ⟨hoff e he, fun h => Bool.noConfusion h⟩, hl⟩

/-- The entries that a cut leaves behind the AllOff: general ones that waited, and no AllOff (R156). -/
theorem purgeForCut_entries (c : AllOffCause) (s : State) :
    ∃ l, (purgeForCut c s).evq.entries = { report := .allOff c, due := s.tick, order := s.evq.made } :: l ∧
      l.Sublist s.evq.entries ∧ ∀ e ∈ l, e.report.section? = none ∧ e.isAllOff = false := by
  have hkept : ∀ e ∈ s.evq.entries.filter fun e => e.report.section?.isNone && !e.isAllOff,
      e.report.section? = none ∧ e.isAllOff = false := fun e he => by
    simpa using (List.mem_filter.mp he).2
  refine ⟨_, rfl, ?_, ?_⟩ <;> split
  · exact (List.dropLast_sublist _).trans List.filter_sublist
  · exact List.filter_sublist
  · exact fun e he => hkept e (List.mem_of_mem_dropLast he)
  · exact hkept

theorem Orderly.purgeForCut (c : AllOffCause) (h : Orderly s) : Orderly (purgeForCut c s) := by
  obtain ⟨l, hentries, hsub, hleft⟩ := purgeForCut_entries c s
  have hnone : ∀ n : Fin 8, (Machine.purgeForCut c s).evq.ahead[n] = false := fun n => by
    simp [Machine.purgeForCut]
  refine ⟨⟨?_, ?_, fun n hn => absurd hn (by rw [hnone n]; decide), ?_, ?_⟩, h.alignments⟩ <;> rw [hentries]
  · exact pairwise_allOff (h.queue.ordered.sublist hsub) fun e he => (hleft e he).2
  all_goals refine List.forall_mem_cons.mpr ⟨?_, fun e he => ?_⟩
  · exact Nat.lt_succ_self _
  · exact (h.queue.made e (hsub.subset he)).trans (Nat.lt_succ_self _)
  · intro n hn
    cases hn
  · intro n hn
    cases (hleft e he).1.symm.trans hn
  · exact nearNow_self s.tick
  · exact h.queue.near e (hsub.subset he)

theorem Orderly.purgeForReset (h : AlignmentsLegal s) : Orderly (purgeForReset s) := by
  refine ⟨⟨?_, ?_, fun n hn => ?_, ?_, ?_⟩, h⟩
  · exact pairwise_allOff (List.pairwise_singleton ..) (by simp [Entry.isAllOff])
  · simp [Machine.purgeForReset]
  · simp [Machine.purgeForReset] at hn
  · simp [Machine.purgeForReset, Report.section?]
  · simpa [Machine.purgeForReset] using nearNow_self s.tick

theorem orderly_released (cause : ResetCause) (rate : LineRate) (cut : Bool) (picks : Nat) (pending : List Instr) :
    Orderly (State.released cause rate cut picks pending) := by
  refine ⟨⟨List.pairwise_singleton .., ?_, fun n hn => ?_, ?_, ?_⟩, fun n => ?_⟩
  · simp [State.released, hardQueue]
  · simp [State.released, hardQueue] at hn
  · simp [State.released, hardQueue, Report.section?]
  · exact List.forall_mem_singleton.mpr (nearNow_self 0)
  · simp [State.released, hardSections, hardRecord]

/-- When a tick passes, no horizon moves back (R149). -/
theorem EventQueue.Orderly.horizon_atTick (h : q.Orderly now) (n : Fin 8) :
    wrapDiff (q.horizon now n) now ≤ wrapDiff ((q.atTick (now + 1)).horizon (now + 1) n) now ∧
      wrapDiff ((q.atTick (now + 1)).horizon (now + 1) n) now ≤ 400 := by
  have hnext : wrapDiff (now + 1) now = 1 := wrapDiff_add_ofNat (n := 1) (by decide)
  unfold EventQueue.horizon
  rw [EventQueue.atTick_ahead, EventQueue.atTick_lastDue]
  cases ha : q.ahead[n] with
  | false => rw [Bool.false_and, if_neg (by decide), if_neg (by decide), wrapDiff_self, hnext]; decide
  | true =>
    obtain ⟨hlow, hhigh⟩ := h.ahead n ha
    cases hc : hasCome (now + 1) q.lastDue[n] with
    | false => exact ⟨le_rfl, hhigh⟩
    | true =>
      have hle : 0 ≤ wrapDiff (now + 1) q.lastDue[n] := of_decide_eq_true hc
      rw [wrapDiff_of_near (now := now) ⟨by omega, by omega⟩ ⟨by omega, by omega⟩, hnext] at hle
      rw [if_pos rfl, if_neg (by decide), hnext]
      omega

/-- A tick that passes leaves the order, and what keeps it. -/
theorem passTick_orders (h : Orderly s) : QueueOrdered (passTick s) ∧ DuesLawful (passTick s) := by
  obtain ⟨hordered, hlawful, _⟩ := orderly_iff.mp h
  rcases passTick_cases s with ⟨_, _, he⟩ | ⟨_, he⟩ <;> rw [he]
  · refine ⟨hordered, h.queue.made, h.alignments, fun n hn => ?_, fun e he n hn => ?_⟩
    · obtain ⟨ha, hc⟩ : s.evq.ahead[n] = true ∧ hasCome (s.tick + 1) s.evq.lastDue[n] = false := by
        rwa [EventQueue.atTick_ahead, Bool.and_eq_true, Bool.not_eq_true'] at hn
      obtain ⟨hlow, hhigh⟩ := h.queue.ahead n ha
      have hnear : NearNow s.tick s.evq.lastDue[n] := ⟨by omega, by omega⟩
      have hnext : wrapDiff (s.tick + 1) s.tick = 1 := wrapDiff_add_ofNat (n := 1) (by decide)
      have hlater : ¬ 0 ≤ wrapDiff (s.tick + 1) s.evq.lastDue[n] := of_decide_eq_false hc
      rw [wrapDiff_of_near ⟨by omega, by omega⟩ hnear, hnext] at hlater
      have hlead := wrapDiff_next hnear
      show 0 < wrapDiff s.evq.lastDue[n] (s.tick + 1) ∧ wrapDiff s.evq.lastDue[n] (s.tick + 1) ≤ 400
      omega
    · obtain ⟨hlow, hhigh⟩ := h.queue.horizon_atTick n
      obtain ⟨hfrom, _⟩ := h.queue.horizon_ahead n
      have hwithin := h.queue.within e he n hn
      rw [wrapDiff_of_near ⟨by omega, by omega⟩ (h.queue.near e he)] at hwithin
      show 0 ≤ wrapDiff ((s.evq.atTick (s.tick + 1)).horizon (s.tick + 1) n) e.due
      rw [wrapDiff_of_near ⟨by omega, by omega⟩ (h.queue.near e he)]
      omega
  · exact ⟨hordered, hlawful⟩

end

end Sys2Proof.Machine
end

section
/-! ## What one command does to the Event Queue -/

namespace Sys2Proof.Machine

/-! ### The moves of the queue -/

/-- What the order of the queue speaks of, beside the alignments: the queue and the tick. -/
def State.queueView (s : State) : EventQueue × Tick := (s.evq, s.tick)

theorem queueView_eq_iff {s t : State} : t.queueView = s.queueView ↔ t.evq = s.evq ∧ t.tick = s.tick :=
  Prod.ext_iff

/-- One move of the queue. A report enters it (R148 to R151), the level of a Dynamic entry is replaced (R151), the transmitter takes
the head (R177), or a purge empties it (R156, R157); in between the queue, the tick and the alignments stand. -/
inductive QueueMove (s : State) : State → Prop
  | stand {t : State} (hview : t.queueView = s.queueView) (halign : AlignmentsLegal s → AlignmentsLegal t) : QueueMove s t
  | general (r : Report) (hsect : r.section? = none) (hoff : ∀ c, r ≠ .allOff c) : QueueMove s (pushGeneral r s)
  | note (n : Fin 8) (r : Report) (hsect : r.section? = some n) (hdyn : ∀ l, r ≠ .dynamic n l) :
    QueueMove s (pushSection n r s)
  | dynamic (n : Fin 8) (l : Nat) (hnew : s.holdsDynamic n = false) : QueueMove s (pushSection n (.dynamic n l) s)
  | level (n : Fin 8) (l : Nat) : QueueMove s (replaceDynamic n l s)
  | take : QueueMove s (s.withEvq { s.evq with entries := s.evq.entries.tail })
  | cut (c : AllOffCause) : QueueMove s (purgeForCut c s)
  | reset : QueueMove s (purgeForReset s)

/-- Any number of moves, one after the other. -/
def QueueWork : State → State → Prop := Relation.ReflTransGen QueueMove

section
variable {s t u : State}

theorem QueueWork.refl (s : State) : QueueWork s s := Relation.ReflTransGen.refl

theorem QueueWork.trans (h : QueueWork s t) (k : QueueWork t u) : QueueWork s u := Relation.ReflTransGen.trans h k

theorem QueueMove.work (h : QueueMove s t) : QueueWork s t := Relation.ReflTransGen.single h

/-- Work on other blocks than the queue and the section records. -/
theorem QueueWork.stand (h : (t.queueView, t.scn.records) = (s.queueView, s.scn.records)) : QueueWork s t := by
  obtain ⟨hview, hrecords⟩ := Prod.mk.inj h
  exact (QueueMove.stand hview fun halign => by rw [AlignmentsLegal, hrecords]; exact halign).work

/-- Work on the queue that begins with work on other blocks. -/
theorem QueueWork.of_stand (h : QueueWork t u) (hs : (t.queueView, t.scn.records) = (s.queueView, s.scn.records)) :
    QueueWork s u := (stand hs).trans h

/-! ### What every move keeps -/

theorem pushSection_entries (n : Fin 8) (r : Report) (s : State) :
    (pushSection n r s).evq.entries = insertEntry { report := r, due := s.dueTick n, order := s.evq.made } s.evq.entries :=
  rfl

theorem pushGeneral_entries (r : Report) (s : State) :
    (pushGeneral r s).evq.entries = insertEntry { report := r, due := s.tick, order := s.evq.made } s.evq.entries := rfl

/-- An entry with another report leaves the number of a section's Dynamic entries. -/
theorem countP_dynamic_insertEntry {m : Fin 8} {e : Entry} {l : List Entry} (h : ∀ k, e.report ≠ .dynamic m k) :
    (insertEntry e l).countP (Entry.isDynamicOf m) = l.countP (Entry.isDynamicOf m) := by
  have hnot : ¬ e.isDynamicOf m = true := fun hd => (Entry.isDynamicOf_iff.mp hd).elim h
  rw [countP_insertEntry, if_neg hnot, Nat.add_zero]

/-- No move brings a second Dynamic entry of a section (R151). -/
theorem QueueMove.dynamicsSingle (h : QueueMove s t) (hs : DynamicsSingle s) : DynamicsSingle t := by
  intro m
  have hm := hs m
  cases h with
  | stand hview => rwa [(queueView_eq_iff.mp hview).1]
  | general r hsect =>
    rw [pushGeneral_entries, countP_dynamic_insertEntry]
    · exact hm
    · rintro k rfl; cases hsect
  | note n r hsect hdyn =>
    rw [pushSection_entries, countP_dynamic_insertEntry]
    · exact hm
    · rintro k rfl
      obtain rfl := Option.some.inj hsect
      exact hdyn k rfl
  | dynamic n l hnew =>
    rw [pushSection_entries, countP_insertEntry]
    split
    next hmn =>
      obtain rfl : n = m := Entry.isDynamicOf_unique (Entry.isDynamicOf_iff.mpr ⟨l, rfl⟩) hmn
      have hnone : s.evq.entries.countP (Entry.isDynamicOf n) = 0 :=
        List.countP_eq_zero.mpr (List.any_eq_false.mp hnew)
      rw [hnone]
    · exact hm
  | level n l =>
    have hsame : Entry.isDynamicOf m ∘ Entry.relevelled n l = Entry.isDynamicOf m :=
      funext (Entry.relevelled_isDynamicOf n m l)
    rwa [replaceDynamic_entries, List.countP_map, hsame]
  | take => exact ((List.tail_sublist _).countP_le).trans hm
  | cut c =>
    obtain ⟨l, hentries, hsub, _⟩ := purgeForCut_entries c s
    rw [hentries]
    exact (hsub.countP_le (p := Entry.isDynamicOf m)).trans hm
  | reset => exact Nat.zero_le 1

/-- Every move keeps the order. -/
theorem QueueMove.orderly (h : QueueMove s t) (hs : Orderly s) : Orderly t := by
  cases h with
  | stand hview halign =>
    obtain ⟨hevq, htick⟩ := queueView_eq_iff.mp hview
    exact ⟨by rw [hevq, htick]; exact hs.queue, halign hs.alignments⟩
  | general r hsect hoff => exact hs.pushGeneral hsect hoff
  | note n r hsect => exact hs.pushSection hsect
  | dynamic n l => exact hs.pushSection rfl
  | level n l => exact hs.replaceDynamic
  | take => exact ⟨hs.queue.sublist (List.tail_sublist _), hs.alignments⟩
  | cut c => exact hs.purgeForCut c
  | reset => exact .purgeForReset hs.alignments

theorem QueueWork.dynamicsSingle (h : QueueWork s t) (hs : DynamicsSingle s) : DynamicsSingle t := by
  induction h with
  | refl => exact hs
  | tail _ hmove ih => exact hmove.dynamicsSingle ih

theorem QueueWork.orderly (h : QueueWork s t) (hs : Orderly s) : Orderly t := by
  induction h with
  | refl => exact hs
  | tail _ hmove ih => exact hmove.orderly ih

/-! ### General reports, flags and voices -/

theorem QueueWork.foldl {α : Type} {f : State → α → State} (step : ∀ s a, QueueWork s (f s a)) (l : List α) (s : State) :
    QueueWork s (l.foldl f s) :=
  foldl_keeps .refl (fun _ _ _ => .trans) step l s

theorem offerGeneral_queueWork (r : Report) (hsect : r.section? = none) (hoff : ∀ c, r ≠ .allOff c) (s : State) :
    QueueWork s (offerGeneral r s) := by
  rcases offerGeneral_cases r s with ⟨_, he⟩ | ⟨_, he⟩ <;> rw [he]
  · exact (QueueMove.general r hsect hoff).work
  · exact .refl _

theorem raiseFlag_queueWork (f : StickyFlag) (s : State) : QueueWork s (raiseFlag f s) := by
  rcases raiseFlag_cases f s with ⟨_, he⟩ | ⟨_, he⟩ <;> rw [he]
  · exact .stand rfl
  · exact (offerGeneral_queueWork (.fault _) rfl nofun (s.withStu _)).of_stand (by rfl)

theorem queueWork_keptByNotes : KeptByNotes QueueWork where
  refl := .refl
  trans := .trans
  noteOn _ _ _ _ _ := (QueueMove.note _ _ rfl (by nofun)).work
  noteOff _ _ _ _ := (QueueMove.note _ _ rfl (by nofun)).work
  dropAttack := raiseFlag_queueWork _
  withVal _ _ := .stand rfl

theorem press_queueWork (k : Fin 192) (s : State) : QueueWork s (press k s) := by
  unfold press
  repeat' split
  · exact .refl _
  · exact raiseFlag_queueWork _ s
  · exact (queueWork_keptByNotes.attack _ _ _ (setHeld _ s)).of_stand (by rfl)

theorem release_queueWork (k : Fin 192) (s : State) : QueueWork s (release k s) := by
  unfold release; split
  · exact .refl _
  · exact (QueueWork.foldl (fun s (p : Pair) => queueWork_keptByNotes.releaseVoice _ p.voice s) _ (setHeld _ s)).of_stand (by rfl)

theorem endOldest_queueWork (n : Fin 8) (r : NoteOffReason) (s : State) : QueueWork s (endOldest n r s) := by
  unfold endOldest; split
  · exact queueWork_keptByNotes.endVoice r _ s
  · exact .refl _

theorem repeat_endOldest_queueWork (n : Fin 8) (r : NoteOffReason) (k : Nat) (s : State) :
    QueueWork s (Nat.repeat (endOldest n r) k s) :=
  repeat_keeps .refl (fun _ _ _ => .trans) (endOldest_queueWork n r) k s

theorem endSection_queueWork (n : Fin 8) (s : State) : QueueWork s (endSection n s) :=
  .trans (repeat_endOldest_queueWork n .sectionOff _ s) (.stand rfl)

/-! ### Registration and key events -/

theorem commitLayers_queueWork (p : Fin 16) (c : Condition) (o : Origin) (s : State) :
    QueueWork s (commitLayers p c o s) :=
  (offerGeneral_queueWork (.registration p o c) rfl nofun (s.withReg _)).of_stand (by rfl)

theorem commit_queueWork (p : Fin 16) (c : Condition) (o : Origin) (s : State) : QueueWork s (commit p c o s) := by
  unfold commit; dsimp only; split
  · exact .trans (commitLayers_queueWork p c o s) (queueWork_keptByNotes.revoice _ _)
  · exact commitLayers_queueWork p c o s

theorem select_queueWork (p : Fin 16) (c : Condition) (o : Origin) (s : State) : QueueWork s (select p c o s) := by
  unfold select; split
  · exact commit_queueWork p _ o s
  · exact .stand rfl

theorem takeBeat_queueWork (b : Bool) (s : State) : QueueWork s (takeBeat b s) := by
  unfold takeBeat
  repeat' split
  · exact commit_queueWork _ _ _ s
  · exact .refl _
  · exact .refl _

theorem routeEvent_queueWork (s : State) (e : KeyEvent) : QueueWork s (routeEvent s e) := by
  unfold routeEvent; split
  · unfold routePress; split
    case h_4 =>
      unfold pressSwitch; split
      · exact .refl _
      · exact select_queueWork _ _ _ s
    case h_5 => exact .refl _
    all_goals exact press_queueWork _ s
  · rcases routeRelease_cases e.key s with he | ⟨_, he⟩ <;> rw [he]
    · exact release_queueWork _ s
    · exact .refl _

theorem takeWriteKeys_queueWork (s : State) : QueueWork s (takeWriteKeys s) := by
  obtain ⟨m, l, he⟩ := takeWriteKeys_frame s
  rw [he]; exact .stand rfl

theorem routeEvents_queueWork (w : Option Nat) (es : List KeyEvent) (s : State) : QueueWork s (routeEvents w es s) := by
  cases w with
  | none => exact .foldl routeEvent_queueWork es s
  | some n =>
    exact ((QueueWork.foldl routeEvent_queueWork _ s).trans (takeWriteKeys_queueWork _)).trans
      (.foldl routeEvent_queueWork _ _)

theorem completeScan_queueWork (r : Readings) (w : Option Nat) (s : State) : QueueWork s (completeScan r w s) := by
  have hksc : ∀ k, QueueWork s (s.withKsc k) := fun _ => .stand rfl
  unfold completeScan; split
  · exact hksc _
  all_goals exact (hksc _).trans (routeEvents_queueWork ..)

/-! ### Dynamic reports and samples -/

/-- A section's report replaces the level of the Dynamic entry that waits, or enters where none does (R151). -/
theorem handDynamic_queueWork (n : Fin 8) (s : State) : QueueWork s (handDynamic n s) := by
  unfold handDynamic; split
  · exact (QueueMove.level n _).work.trans (.stand rfl)
  next hnone =>
    split
    · exact (QueueMove.dynamic n _ (Bool.eq_false_iff.mpr hnone)).work.trans (.stand rfl)
    · exact .refl _

/-- A walk of reports over the sections (R45, R48). -/
theorem reportWalk_queueWork (c : State → Fin 8 → Prop) [∀ s n, Decidable (c s n)] (l : List (Fin 8)) (s : State) :
    QueueWork s (reportWalk c l s) :=
  .foldl (fun s n => by
    rcases reportIf_cases c s n with he | he <;> rw [he]
    · exact handDynamic_queueWork n s
    · exact .refl s) l s

theorem reportAllReady_queueWork (s : State) : QueueWork s (reportAllReady s) := by
  rw [reportAllReady_eq_walk]; exact reportWalk_queueWork _ _ s

theorem forceStages_queueWork (c : Int) (s : State) : QueueWork s (forceStages c s) := by
  unfold forceStages; dsimp only; split
  · exact (raiseFlag_queueWork _ s).trans (.stand rfl)
  · exact .stand rfl

theorem expressionSample_queueWork (c : Option Int) (s : State) : QueueWork s (expressionSample c s) := by
  have hlevels : ∀ u, QueueWork u (testDynamics (takeLevels u)) := fun u =>
    (reportWalk_queueWork earnsReport (List.finRange 8) (takeLevels u)).of_stand (by rfl)
  cases c with
  | none => exact (hlevels (accentCountdown s)).of_stand (by rfl)
  | some c =>
    have haccent : QueueWork (forceStages c s) (accentTest (accentCountdown (forceStages c s))) := .stand rfl
    exact ((forceStages_queueWork c s).trans haccent).trans (hlevels _)

theorem judgedSample_queueWork (raw : Int) (s : State) : QueueWork s (judgedSample raw s) := by
  refine QueueWork.of_stand (t := collect raw s) ?_ rfl
  rcases sensorTest_cases raw (collect raw s) with h | ⟨_, _, _, h⟩ | ⟨_, _, _, h⟩ | h <;> rw [judgedSample, h]
  case inl => exact (offerGeneral_queueWork (.fault .sensor) rfl nofun ((collect raw s).withBlu _)).of_stand (by rfl)
  all_goals exact .stand rfl

theorem heardSample_queueWork (raw : Int) (s : State) : QueueWork s (heardSample raw s) := by
  have hclip : QueueWork s (clipCentring raw s) := by
    unfold clipCentring; split
    · exact .refl _
    · exact raiseFlag_queueWork _ s
  exact hclip.trans ((expressionSample_queueWork _ ((clipCentring raw s).withBlu _)).of_stand (by rfl))

theorem handReversal_queueWork (d : Side) (s : State) : QueueWork s (handReversal d s) :=
  (offerGeneral_queueWork (.reversal d) rfl nofun s).trans (queueWork_keptByNotes.takeReversal commitLayers_queueWork d _)

theorem processSample_queueWork (raw : Int) (s : State) : QueueWork s (processSample raw s) := by
  refine (judgedSample_queueWork raw s).trans ?_
  cases h : (judgedSample raw s).blu.sensor with
  | fault => rw [processSample_of_fault h]; exact expressionSample_queueWork none _
  | ok =>
    rw [processSample_of_ok h]
    rcases ordinarySample_cases raw (judgedSample raw s) with he | ⟨d, he⟩ <;> rw [he]
    · exact heardSample_queueWork raw _
    · exact (heardSample_queueWork raw _).trans (handReversal_queueWork d _)

/-! ### Beats -/

theorem reportPhase_queueWork (p : ClockPhase) (s : State) : QueueWork s (reportPhase p s) := by
  unfold reportPhase; split
  · exact .refl _
  · exact offerGeneral_queueWork (.clockState _ _) rfl nofun s

theorem beatEvent_queueWork (p : ClockPhase) (c : Clock) (s : State) : QueueWork s (beatEvent p c s) :=
  ((reportPhase_queueWork p (s.withTck _)).of_stand (by rfl)).trans (takeBeat_queueWork _ _)

theorem meetDeadline_queueWork (s : State) : QueueWork s (meetDeadline s) := by
  unfold meetDeadline; split
  · exact beatEvent_queueWork _ _ s
  · exact (reportPhase_queueWork _ (s.withTck _)).of_stand (by rfl)

theorem acceptBeat_queueWork (s : State) : QueueWork s (acceptBeat s) := by
  unfold acceptBeat; split
  · exact .refl _
  · exact beatEvent_queueWork _ _ s

/-! ### Sections, cut and resets -/

theorem becomeReady_queueWork (n : Fin 8) (s : State) : QueueWork s (becomeReady n s) := by
  refine QueueWork.of_stand (t := setReadiness n .ready s) ?_ rfl
  unfold becomeReady reportReady; split
  · exact .refl _
  · exact handDynamic_queueWork n _

theorem sectionReady_queueWork (p : List Byte) (s : State) : QueueWork s (sectionReady p s).state := by
  have hoff : ∀ n, QueueWork s (declareOff n s) := fun n => by
    unfold declareOff; split
    · exact (endSection_queueWork n (setReadiness n .off s)).of_stand (by rfl)
    all_goals exact .stand rfl
  have hready : ∀ n settle, QueueWork s (declareReady n settle s) := fun n settle => by
    unfold declareReady; split
    · exact .refl _
    all_goals
      split
      · exact becomeReady_queueWork n s
      · exact .stand rfl
  unfold sectionReady; dsimp only
  repeat' split
  · exact .refl _
  · exact hready _ _
  · exact hoff _
  · exact .refl _

/-- A section record that is taken keeps the alignments legal (R82). -/
theorem setRecord_queueWork (n : Fin 8) (r : SectionRecord) (s : State) : QueueWork s (setRecord n r.clamped s) := by
  refine QueueMove.work (.stand rfl fun h m => ?_)
  have hget : (setRecord n r.clamped s).scn.records[m] = if m = n then r.clamped else s.scn.records[m] := by
    simp [setRecord, Vector.getElem_set, Fin.ext_iff, eq_comm]
  rw [hget]; split
  · exact (clampNat_mem (Nat.zero_le 400) r.alignment).2
  · exact h m

theorem writeSection_queueWork (p : List Byte) (s : State) : QueueWork s (writeSection p s).state := by
  unfold writeSection; dsimp only
  repeat' split
  · exact (setRecord_queueWork _ _ s).trans (repeat_endOldest_queueWork ..)
  · exact .refl _
  · exact .refl _

theorem cutIfNormal_queueWork (c : CutCause) (s : State) : QueueWork s (cutIfNormal c s) := by
  unfold cutIfNormal; split
  · exact .refl _
  · have hpurge : ∀ u, QueueWork u (closeAccent (emptySlot (purgeForCut c.allOff u))) := fun u =>
      (QueueMove.cut c.allOff).work.trans (.stand rfl)
    exact (hpurge (setCutRecord _ _ (endAllVoices (setCut true s)))).of_stand (by rfl)

theorem resume_queueWork (p : List Byte) (s : State) : QueueWork s (resume p s).state := by
  cases hcut : s.scn.cut with
  | false => rw [resume_of_normal hcut]; exact .refl s
  | true =>
    cases hlow : s.scn.lastCut with
    | true => rw [resume_of_high hcut hlow]; exact .refl s
    | false =>
      rw [resume_of_low hcut hlow]
      dsimp only
      exact (reportAllReady_queueWork (setCut false s)).of_stand (by rfl)

theorem softReset_queueWork (s : State) : QueueWork s (softReset s) := by
  unfold softReset
  have hunits : ∀ u, QueueWork u (softClock (softExpression (softBellows u))) := fun _ => .stand rfl
  have hsections : ∀ u, QueueWork u (emptySlot (softSections u)) := fun _ => .stand rfl
  have hvoices : ∀ u, QueueWork u (softStatus (softAllocator u)) := fun _ => .stand rfl
  exact (((hunits s).trans (hsections _)).trans (hvoices _)).trans QueueMove.reset.work

/-! ### Link Controller -/

theorem disposeFrame_queueWork (f : Frame) (s : State) : QueueWork s (disposeFrame f s) := by
  unfold disposeFrame
  repeat' split
  · exact .refl _
  · exact raiseFlag_queueWork _ s
  · exact .stand rfl

theorem hunt_queueWork (n : Nat) (bs : List Byte) (s : State) : QueueWork s (hunt n bs s) := by
  induction n generalizing bs s with
  | zero => exact .stand rfl
  | succ n ih =>
    cases bs with
    | nil => exact .stand rfl
    | cons b bs =>
      unfold hunt; dsimp only
      repeat' split
      · exact ih bs s
      · exact .stand rfl
      · exact (raiseFlag_queueWork _ s).trans (ih _ _)
      · exact .stand rfl
      · exact (disposeFrame_queueWork _ s).trans (ih _ _)
      · exact (raiseFlag_queueWork _ s).trans (ih _ _)

theorem abandon_queueWork (f : StickyFlag) (held : List Byte) (s : State) : QueueWork s (abandon f held s) :=
  (raiseFlag_queueWork f s).trans (hunt_queueWork _ _ _)

theorem completeFrame_queueWork (s : State) : QueueWork s (completeFrame s) := by
  unfold completeFrame
  repeat' split
  · exact .refl _
  · exact (disposeFrame_queueWork _ s).trans (.stand rfl)
  · exact abandon_queueWork _ _ s
  · exact .refl _

theorem takeByte_queueWork (b : Byte) (low : Bool) (s : State) : QueueWork s (takeByte b low s) := by
  unfold takeByte; dsimp only
  repeat' split
  · exact .stand rfl
  · exact .refl _
  · exact abandon_queueWork _ _ s
  · exact abandon_queueWork _ _ s
  · exact .stand rfl

theorem chooseFrame_queueWork (s : State) : QueueWork s (chooseFrame s) := by
  unfold chooseFrame
  repeat' split
  · exact .stand rfl
  · exact QueueMove.take.work.trans (.stand rfl)
  · exact .refl _
  · exact .refl _

/-! ### Every command and every step -/

/-- A command whose effect is work on the queue. -/
theorem QueueWork.whileRunning {effect : State → State} (he : whileRunning effect s = .next t)
    (work : QueueWork s (effect s)) : QueueWork s t := whileRunning_keeps (.refl s) he work

/-- A command that has its effect under a condition, and otherwise none. -/
theorem QueueWork.whileRunning_ite {c : State → Prop} [DecidablePred c] {f : State → State}
    (he : Machine.whileRunning (fun s => if c s then f s else s) s = .next t) (work : QueueWork s (f s)) :
    QueueWork s t := by
  refine .whileRunning he ?_
  split
  · exact work
  · exact .refl _

/-- A request whose owner works on the queue. -/
theorem QueueWork.serve {kind : Byte} {len : Nat} {owner : List Byte → State → Answer}
    (he : serve kind len owner s = .next t) (work : ∀ p s, QueueWork s (owner p s).state) : QueueWork s t :=
  serve_keeps (.refl s) he (fun _ _ h => h.trans (.stand rfl)) fun p u h => h.trans (work p u)

theorem execScanStart_queueWork (he : execScanStart s = .next t) : QueueWork s t := .whileRunning_ite he (.stand rfl)

theorem execScanCompletion_queueWork {r : ScanResult} (he : execScanCompletion r s = .next t) : QueueWork s t :=
  .whileRunning_ite he (completeScan_queueWork _ _ s)

theorem execScanBoundary_queueWork (he : execScanBoundary s = .next t) : QueueWork s t := .whileRunning he (.stand rfl)

theorem execReinitialisationWindowEnd_queueWork (he : execReinitialisationWindowEnd s = .next t) : QueueWork s t :=
  .whileRunning_ite he (.stand rfl)

theorem execSample_queueWork {p : Int} (he : execSample p s = .next t) : QueueWork s t :=
  .whileRunning_ite he ((processSample_queueWork _ (s.withBlu _)).of_stand (by rfl))

theorem execLastRealBeatAbsent_queueWork (he : execLastRealBeatAbsent s = .next t) : QueueWork s t :=
  .whileRunning_ite he (.stand rfl)

theorem execDeadline_queueWork (he : execDeadline s = .next t) : QueueWork s t :=
  .whileRunning_ite he (meetDeadline_queueWork s)

theorem execByteArrival_queueWork {b : Byte} {low : Bool} (he : execByteArrival b low s = .next t) : QueueWork s t :=
  .whileRunning he ((completeFrame_queueWork s).trans (takeByte_queueWork b low _))

theorem execGap_queueWork (he : execGap s = .next t) : QueueWork s t := .whileRunning_ite he (abandon_queueWork _ _ s)

theorem execTransmit_queueWork (he : execTransmit s = .next t) : QueueWork s t := .whileRunning_ite he (chooseFrame_queueWork s)

theorem execCutLineSample_queueWork {b : Bool} (he : execCutLineSample b s = .next t) : QueueWork s t :=
  .whileRunning_ite he (.stand rfl)

theorem execClickLineSample_queueWork {a b : Bool} (he : execClickLineSample a b s = .next t) : QueueWork s t :=
  .whileRunning he (.stand rfl)

theorem execBeatEdge_queueWork (he : execBeatEdge s = .next t) : QueueWork s t := by
  refine .whileRunning he ?_
  split
  · exact (acceptBeat_queueWork (s.withTck _)).of_stand (by rfl)
  · exact .refl s

theorem execBarEdge_queueWork (he : execBarEdge s = .next t) : QueueWork s t := by
  refine .whileRunning he ?_
  split
  · exact .stand rfl
  · exact .refl s

theorem execCutEdge_queueWork (he : execCutEdge s = .next t) : QueueWork s t := by
  refine .whileRunning he ?_
  split
  · exact (cutIfNormal_queueWork _ (s.withScn _)).of_stand (by rfl)
  · exact .refl s

theorem execCalibrationEnd_queueWork (he : execCalibrationEnd s = .next t) : QueueWork s t := by
  refine .whileRunning he ?_
  split
  · exact .stand rfl
  · exact .refl s

theorem execSettleExpiry_queueWork {n : Nat} (he : execSettleExpiry n s = .next t) : QueueWork s t := by
  refine .whileRunning he ?_
  repeat' split
  · exact becomeReady_queueWork _ s
  all_goals exact .refl s

theorem execReleaseExpiry_queueWork {v : Nat} (he : execReleaseExpiry v s = .next t) : QueueWork s t := by
  refine .whileRunning he ?_
  repeat' split
  · exact .stand rfl
  all_goals exact .refl s

theorem execFrameSent_queueWork (he : execFrameSent s = .next t) : QueueWork s t := by
  refine .whileRunning he ?_
  split
  · exact .refl s
  · exact (chooseFrame_queueWork _).of_stand (by rfl)

theorem execUnknownRequest_queueWork (he : execUnknownRequest s = .next t) : QueueWork s t := by
  rcases takeRequest_cases he with rfl | ⟨f, rest, _, _, rfl⟩
  · exact .refl t
  · exact .stand rfl

theorem execCalibrate_queueWork (he : execCalibrate s = .next t) : QueueWork s t := by
  rcases takeRequest_cases he with rfl | ⟨f, rest, _, _, rfl⟩
  · exact .refl t
  · split <;> exact .stand rfl

theorem execReset_queueWork (he : execReset s = .next t) : QueueWork s t := by
  rcases takeRequest_cases he with rfl | ⟨f, rest, _, _, rfl⟩
  · exact .refl t
  · split
    · exact (softReset_queueWork _).of_stand (by rfl)
    · exact .stand rfl

theorem setScan_queueWork (p : List Byte) (s : State) : QueueWork s (setScan p s).state := by
  unfold setScan; split
  · exact .refl s
  · exact .stand rfl

theorem readKeys_queueWork (p : List Byte) (s : State) : QueueWork s (readKeys p s).state := by
  unfold readKeys; dsimp only; split <;> exact .refl s

theorem readSection_queueWork (p : List Byte) (s : State) : QueueWork s (readSection p s).state := by
  unfold readSection; split <;> exact .refl s

theorem writeLayer_queueWork (p : List Byte) (s : State) : QueueWork s (writeLayer p s).state := by
  unfold writeLayer; dsimp only
  repeat' split
  · exact .refl s
  · exact .stand rfl
  · exact .refl s

theorem readLayer_queueWork (p : List Byte) (s : State) : QueueWork s (readLayer p s).state := by
  unfold readLayer; dsimp only
  repeat' split
  all_goals exact .refl s

theorem setPresetFlags_queueWork (p : List Byte) (s : State) : QueueWork s (setPresetFlags p s).state := by
  unfold setPresetFlags
  repeat' split
  · exact .refl s
  · exact .stand rfl
  · exact .refl s

theorem selectRequest_queueWork (p : List Byte) (s : State) : QueueWork s (selectRequest p s).state := by
  rcases selectRequest_state p s with he | ⟨q, c, he⟩ <;> rw [he]
  · exact .refl s
  · exact select_queueWork q c _ s

end

/-- The part as some hard reset's release leaves it (R158). -/
def State.JustReleased (t : State) : Prop :=
  ∃ cause rate cut picks pending, t = State.released cause rate cut picks pending

/-- Everything a command can do to the queue: work on it move by move, or release the part from a hard reset. -/
theorem exec_queueWork {i : Instr} {s t : State} (he : exec i s = .next t) : QueueWork s t ∨ t.JustReleased := by
  by_cases hi : ∃ a b c, i = .resetRelease a b c
  · obtain ⟨a, b, c, rfl⟩ := hi
    change execResetRelease a b c s = .next t at he
    unfold execResetRelease at he
    split at he <;> cases he
    · exact .inr ⟨_, _, _, _, _, rfl⟩
    · exact .inl (.refl s)
  left
  cases i with
  | resetRelease a b c => exact absurd ⟨a, b, c, rfl⟩ hi
  | hardReset c => cases he; exact .stand rfl
  | scanStart => exact execScanStart_queueWork he
  | scanCompletion r => exact execScanCompletion_queueWork he
  | scanBoundary => exact execScanBoundary_queueWork he
  | reinitialisationWindowEnd => exact execReinitialisationWindowEnd_queueWork he
  | sample p => exact execSample_queueWork he
  | calibrationEnd => exact execCalibrationEnd_queueWork he
  | beatEdge => exact execBeatEdge_queueWork he
  | barEdge => exact execBarEdge_queueWork he
  | lastRealBeatAbsent => exact execLastRealBeatAbsent_queueWork he
  | deadline => exact execDeadline_queueWork he
  | cutEdge => exact execCutEdge_queueWork he
  | settleExpiry n => exact execSettleExpiry_queueWork he
  | releaseExpiry v => exact execReleaseExpiry_queueWork he
  | byteArrival b low => exact execByteArrival_queueWork he
  | gap => exact execGap_queueWork he
  | frameComplete => exact .whileRunning he (completeFrame_queueWork s)
  | unknownRequest => exact execUnknownRequest_queueWork he
  | setScan => exact .serve he setScan_queueWork
  | setBellows => exact .serve he fun _ _ => .stand rfl
  | calibrate => exact execCalibrate_queueWork he
  | setExpression => exact .serve he fun _ _ => .stand rfl
  | setClock => exact .serve he fun _ _ => .stand rfl
  | writeKeys => exact .whileRunning he (takeWriteKeys_queueWork s)
  | readKeys => exact .serve he readKeys_queueWork
  | writeSection => exact .serve he writeSection_queueWork
  | readSection => exact .serve he readSection_queueWork
  | sectionReady => exact .serve he sectionReady_queueWork
  | cutRequest => exact .serve he fun _ s => cutIfNormal_queueWork _ s
  | resume => exact .serve he resume_queueWork
  | selectPreset => exact .serve he selectRequest_queueWork
  | cancelPending => exact .serve he fun _ _ => .stand rfl
  | writeLayer => exact .serve he writeLayer_queueWork
  | readLayer => exact .serve he readLayer_queueWork
  | setPresetFlags => exact .serve he setPresetFlags_queueWork
  | status => exact .serve he fun _ s => .refl s
  | clearFlags => exact .serve he fun _ _ => .stand rfl
  | reset => exact execReset_queueWork he
  | transmit => exact execTransmit_queueWork he
  | frameSent => exact execFrameSent_queueWork he
  | cutLineSample b => exact execCutLineSample_queueWork he
  | clickLineSample a b => exact execClickLineSample_queueWork he

theorem State.JustReleased.dynamicsSingle {t : State} (h : t.JustReleased) : DynamicsSingle t := by
  obtain ⟨cause, rate, cut, picks, pending, rfl⟩ := h
  exact fun n => Nat.zero_le 1

theorem State.JustReleased.orderly {t : State} (h : t.JustReleased) : Orderly t := by
  obtain ⟨cause, rate, cut, picks, pending, rfl⟩ := h
  exact orderly_released ..

/-- Everything a step can do to the queue: work on it move by move, a release from a hard reset, or the passing of a tick. -/
theorem step_queueWork {s t : State} (h : step s = .next t) : QueueWork s t ∨ t.JustReleased ∨ t = passTick s := by
  rcases step_cases h with ⟨i, picks, pending, he⟩ | hpass
  · rcases exec_queueWork he with hwork | hreleased
    · exact .inl (hwork.of_stand rfl)
    · exact .inr (.inl hreleased)
  · exact .inr (.inr hpass)

theorem passTick_dynamicsSingle {s : State} (h : DynamicsSingle s) : DynamicsSingle (passTick s) := by
  rcases passTick_cases s with ⟨_, _, he⟩ | ⟨_, he⟩ <;> rw [he] <;> exact h

/-- Settles O60: whatever a command does to the queue is a chain of moves (`QueueMove`), and every move keeps both laws; a release
begins with one entry, and a tick that passes moves no horizon back. -/
theorem everyStepKeepsDynamicsSingle : Obligations.EveryStepKeepsDynamicsSingle := by
  constructor
  · intro s t hs hstep
    rcases step_queueWork hstep with hwork | hreleased | rfl
    · exact hwork.dynamicsSingle hs
    · exact hreleased.dynamicsSingle
    · exact passTick_dynamicsSingle hs
  · intro s t hordered hlawful hnear hstep
    have hs : Orderly s := orderly_iff.mpr ⟨hordered, hlawful, hnear⟩
    have of_orderly : Orderly t → QueueOrdered t ∧ DuesLawful t := fun ht => (orderly_iff.mp ht).imp_right And.left
    rcases step_queueWork hstep with hwork | hreleased | rfl
    · exact of_orderly (hwork.orderly hs)
    · exact of_orderly hreleased.orderly
    · exact passTick_orders hs

end Sys2Proof.Machine
end

section
/-! ## The transmitter's choice (R155, R177, R178, R184) -/

namespace Sys2Proof.Machine

/-! ### Report frames (R181, R184) -/

/-- KIND and fields of every kind of report as R184 lays them out. -/
theorem Report.laidOut_eq (r : Report) : r.laidOut = (BitVec.ofNat 8 r.kindCode, r.fields) := by
  cases r with
  | noteOn n p l c => cases c <;> rfl
  | noteOff n p c => cases c <;> rfl
  | dynamic n l => rfl
  | allOff c => cases c <;> rfl
  | reversal d => cases d <;> rfl
  | registration p o c =>
    cases o <;> cases c with
    | immediate => rfl
    | next t => cases t <;> rfl
  | clockState p q => cases p <;> rfl
  | fault f =>
    cases f with
    | sticky f => cases f <;> rfl
    | sensor => rfl
  | started c => cases c <;> rfl

/-- A time of four bytes (R167, R184). -/
theorem byte4_eq_timeBytes (t : Tick) : byte4 t = timeBytes t := by
  have hbyte : ∀ a b : Nat, a % 256 = b % 256 → BitVec.ofNat 8 a = BitVec.ofNat 8 b := fun a b h =>
    BitVec.eq_of_toNat_eq (by simpa using h)
  simp only [byte4, byte2, timeBytes, List.cons_append, List.nil_append]
  rw [hbyte (t.toNat / 65536 / 256) (t.toNat / 16777216) (by omega),
    hbyte (t.toNat % 65536 / 256) (t.toNat / 256) (by omega), hbyte (t.toNat % 65536) t.toNat (by omega)]

/-- The frame of an entry has the KIND of its report, and carries its due tick and the fields. -/
theorem reportFrame_eq (e : Entry) (tag : Byte) :
    reportFrame e tag = { kind := e.report.laidOut.1, tag := tag, payload := timeBytes e.due ++ e.report.laidOut.2 } := by
  rw [Report.laidOut_eq, ← byte4_eq_timeBytes]; rfl

/-! ### The choice (R177) -/

section
variable {i : Instr} {s : State} {e : Entry} {es : List Entry}

theorem chooseFrame_of_reply {f : Frame} (h : s.lnk.slot = some f) : chooseFrame s = sendReply f s := by
  unfold chooseFrame; rw [h]

theorem chooseFrame_of_due (h : s.lnk.slot = none) (he : s.evq.entries = e :: es) (hd : e.isDue s.tick = true) :
    chooseFrame s = sendReport e s := by
  simp only [chooseFrame, h, he, hd, if_true]

theorem chooseFrame_of_early (h : s.lnk.slot = none) (he : s.evq.entries = e :: es) (hd : ¬ e.isDue s.tick = true) :
    chooseFrame s = s := by
  simp only [chooseFrame, h, he, if_neg hd]

theorem chooseFrame_of_empty (h : s.lnk.slot = none) (he : s.evq.entries = []) : chooseFrame s = s := by
  simp only [chooseFrame, h, he]

/-- The part with its transmitter IDLE. -/
def State.untransmitting (s : State) : State := s.withLnk { s.lnk with transmitter := .idle }

/-- TRANSMIT on an IDLE transmitter and FRAME_SENT on a SENDING one make the same choice (log entry 8). -/
theorem exec_chooses (hr : s.inReset = none)
    (hi : (i = .transmit ∧ s.lnk.transmitter = .idle) ∨ (i = .frameSent ∧ s.lnk.transmitter ≠ .idle)) :
    exec i s = .next (chooseFrame s.untransmitting) := by
  rcases hi with ⟨rfl, hidle⟩ | ⟨rfl, hsending⟩
  · have harm : exec .transmit s = execTransmit s := rfl
    have hsame : s.untransmitting = s := by rw [State.untransmitting, ← hidle]; rfl
    rw [harm, execTransmit, whileRunning_of_running hr, if_pos hidle, hsame]
  · have harm : exec .frameSent s = execFrameSent s := rfl
    rw [harm, execFrameSent, whileRunning_of_running hr, if_neg hsending]
    rfl

/-- A report that the transmitter takes leaves the queue, and its frame is sent with the report sequence as TAG (R178, R184). -/
theorem sendReport_untransmitting (he : s.evq.entries = e :: es) :
    sendReport e s.untransmitting =
      { s with
        evq := { s.evq with entries := es }
        lnk :=
          { s.lnk with
            transmitter :=
              .sending (Frame.line { kind := e.report.laidOut.1, tag := s.lnk.sequence, payload := timeBytes e.due ++ e.report.laidOut.2 })
            sequence := s.lnk.sequence + 1 } } := by
  have htail : s.evq.entries.tail = es := by rw [he]; rfl
  rw [← reportFrame_eq, ← htail]; rfl

end

/-- Settles O51: both commands make `chooseFrame`'s choice, which goes by the slot, the head entry and whether it is due. -/
theorem transmitterTakesReplyThenDueReport : Obligations.TransmitterTakesReplyThenDueReport := by
  intro i s hr hi
  rw [exec_chooses hr hi]
  refine ⟨fun f hf => ?_, fun hnone e es he => ⟨fun hdue => ?_, fun hoff hearly => ?_⟩, fun hnone hempty => ?_⟩
  · rw [chooseFrame_of_reply (s := s.untransmitting) hf]; rfl
  · rw [chooseFrame_of_due (s := s.untransmitting) hnone he (Entry.isDue_iff.mpr hdue), sendReport_untransmitting he]
  · have hnot : ¬ e.isDue s.tick = true := fun hd => (Entry.isDue_iff.mp hd).elim (fun ⟨c, hc⟩ => hoff c hc) hearly
    rw [chooseFrame_of_early (s := s.untransmitting) hnone he hnot]; rfl
  · rw [chooseFrame_of_empty (s := s.untransmitting) hnone hempty]; rfl

end Sys2Proof.Machine
end

section
/-! ## Occurrences of the sticky flags (R185, R186) -/

namespace Sys2Proof.Machine

/-- The byte of one flag alone (R181). -/
theorem StickyFlag.byte_eq (f : StickyFlag) : BitVec.ofNat 8 (2 ^ f.bit) = 1#8 <<< f.bit := by cases f <;> rfl

theorem StickyFlag.getLsbD_byte (f : StickyFlag) (i : Nat) : (1#8 <<< f.bit).getLsbD i = decide (f.bit = i) := by
  have hbit : f.bit < 8 := by cases f <;> decide
  rw [← BitVec.twoPow_eq, BitVec.getLsbD_twoPow, decide_eq_true hbit, Bool.true_and]

/-- Setting a flag that is set changes nothing. -/
theorem StatusUnit.setFlag_of_isSet {f : StickyFlag} {u : StatusUnit} (h : u.isSet f = true) : u.setFlag f = u := by
  have hsticky : u.sticky ||| 1#8 <<< f.bit = u.sticky := by
    refine BitVec.eq_of_getLsbD_eq fun i _ => ?_
    rw [BitVec.getLsbD_or, f.getLsbD_byte]
    by_cases hi : f.bit = i
    · subst hi
      rw [StatusUnit.isSet] at h
      rw [h, Bool.true_or]
    · rw [decide_eq_false hi, Bool.or_false]
  rw [StatusUnit.setFlag, f.byte_eq, hsticky]

/-- Every occurrence counts and leaves the flag set, whether it was or not (R185). -/
theorem raiseFlag_stu (f : StickyFlag) (s : State) : (raiseFlag f s).stu = (s.stu.tally f).setFlag f := by
  rw [raiseFlag_sticky]; split
  next h => rw [StatusUnit.setFlag_of_isSet (by rwa [StatusUnit.isSet_tally])]
  · rfl

/-- Only the counter of the flag that occurs rises. -/
theorem StatusUnit.tally_setFlag_eq (f : StickyFlag) (u : StatusUnit) :
    let counted := fun (g : StickyFlag) (highest count : Nat) => if g = f ∧ count < highest then count + 1 else count
    (u.tally f).setFlag f =
      { sticky := u.sticky ||| (1#8 <<< f.bit)
        frameCount := counted .frame 255 u.frameCount
        lengthCount := counted .length 255 u.lengthCount
        gapCount := counted .gap 255 u.gapCount
        checkCount := counted .check 255 u.checkCount
        overrunCount := counted .overrun 255 u.overrunCount
        dropAttackCount := counted .dropAttack 65535 u.dropAttackCount } := by
  rw [StatusUnit.setFlag, f.byte_eq]
  cases f <;> simp [StatusUnit.tally, bump]

section
variable {f : StickyFlag} {s : State}

/-- An occurrence on a set flag, or one that the queue does not admit, makes no report (R154, R186). -/
theorem raiseFlag_evq_of_silent (h : s.stu.isSet f = true ∨ s.freeEntries < s.soundingTotal + 1) :
    (raiseFlag f s).evq = s.evq := by
  rcases raiseFlag_cases f s with ⟨_, he⟩ | ⟨hclear, he⟩ <;> rw [he]
  · rfl
  · have hfull : s.freeEntries < s.soundingTotal + 1 := h.resolve_left (by rw [hclear]; decide)
    rcases offerGeneral_cases (.fault (.sticky f)) (s.withStu ((s.stu.tally f).setFlag f)) with ⟨hroom, _⟩ | ⟨_, he⟩
    · exact absurd hroom (not_le.mpr hfull)
    · rw [he]; rfl

/-- The first occurrence makes one entry when the queue admits it (R154, R186). -/
theorem raiseFlag_fill (h : s.stu.isSet f = false) (hroom : s.soundingTotal + 1 ≤ s.freeEntries) :
    (raiseFlag f s).fill = s.fill + 1 := by
  rcases raiseFlag_cases f s with ⟨hset, _⟩ | ⟨_, he⟩
  · rw [h] at hset; cases hset
  · rcases offerGeneral_cases (.fault (.sticky f)) (s.withStu ((s.stu.tally f).setFlag f)) with ⟨_, hp⟩ | ⟨hfull, _⟩
    · rw [he, hp]; exact pushGeneral_fill _ (s.withStu _)
    · exact absurd hroom (not_le.mpr hfull)

end

/-- Settles O53: an occurrence touches flags and queue alone; flag and counters are `raiseFlag_stu`, and the report turns on whether the
flag was clear and the queue admits it. -/
theorem firstOccurrenceIsReported : Obligations.FirstOccurrenceIsReported := by
  intro f s bit counted t
  have hbit : bit = f.bit := by cases f <;> rfl
  rw [hbit]
  refine ⟨raiseFlag_noticesOnly f s, ?_, raiseFlag_evq_of_silent, fun hclear hroom => ?_⟩
  · exact (raiseFlag_stu f s).trans (StatusUnit.tally_setFlag_eq f s.stu)
  · exact ⟨raiseFlag_fill hclear hroom, raiseFlag_reports hclear hroom⟩

end Sys2Proof.Machine
end

section
/-! ## Status and Reset (R157, R179, R183, R187) -/

namespace Sys2Proof.Machine

/-! ### The codes of the summary (R181, R183) -/

theorem byte1_bitCode (x : Bool) : byte1 (bitCode x) = [if x = true then 1 else 0] :=
  congrArg (fun b => [b]) (bit_byte x)

theorem byte1_presetCode (q : Option (Fin 16)) :
    byte1 (presetCode q) = [(q.map fun p => BitVec.ofNat 8 p.val).getD 0xFF] :=
  congrArg (fun b => [b]) (preset_byte q)

theorem byte1_cutCauseCode (c : Option CutCause) :
    byte1 (cutCauseCode c) = [match c with | none => 0 | some .line => 1 | some .request => 2] := by
  rcases c with _ | _ | _ <;> rfl

theorem slotBytes_eq (c : Option Change) :
    slotBytes c =
      match c with
      | none => [0xFF, 0, 0]
      | some c =>
        [BitVec.ofNat 8 c.preset.val, match c.trigger with | .reversal => 1 | .beat => 2 | .bar => 3,
          match c.origin with | .request => 0 | .switch => 1] := by
  rcases c with _ | ⟨p, t, o⟩
  · rfl
  · cases t <;> cases o <;> rfl

theorem byte1_directionCode (d : Option Side) :
    byte1 (directionCode d) = [match d with | none => 0 | some .push => 1 | some .pull => 2] := by
  rcases d with _ | _ | _ <;> rfl

theorem byte1_sensorCode (x : SensorState) :
    byte1 x.code = [match x with | .ok => 0 | .fault => 1] := by cases x <;> rfl

theorem byte1_phaseCode (x : ClockPhase) :
    byte1 x.code = [match x with | .stopped => 0 | .starting => 1 | .running => 2 | .coasting => 3] := by
  cases x <;> rfl

theorem State.liveFlags_eq (s : State) :
    s.liveFlags = (match s.blu.sensor with | .ok => 0 | .fault => 1) ||| (if s.scn.cut = true then 2 else 0) := by
  unfold State.liveFlags; cases s.blu.sensor <;> rfl

/-! ### Status (R187) -/

/-- Settles O31: the owner answers the summary, whose fields stand one behind the other in the codes of R181. -/
theorem statusAnswersTheSummary : Obligations.StatusAnswersTheSummary := by
  intro s tag rest ho b
  have harm : exec .status s = serve 0x12 0 statusRequest s := rfl
  rw [harm, serve_of_unchanged (len := 0) (owner := statusRequest) (status := .done) (data := s.summary) ho rfl rfl]
  unfold State.summary
  simp only [State.soundingCounts, byte1_bitCode, byte1_presetCode, byte1_cutCauseCode, slotBytes_eq,
    byte1_directionCode, byte1_sensorCode, byte1_phaseCode, State.liveFlags_eq]
  simp only [byte1, byte2, List.append_assoc, List.cons_append, List.nil_append]
  rfl

/-! ### Reset (R157, R179) -/

/-- The blocks' soft-reset values, and what stays of each block: the soft resets act each on a block of its own, and the purge on the
queue. -/
theorem softReset_eq (s : State) :
    softReset s =
      { s with
        blu := { s.blu with direction := none, pushRun := 0, pullRun := 0, collection := none }
        exu :=
          { s.exu with
            force := 0, smoothed := 0, history := List.replicate 8 0, accentCount := 0
            sections := s.exu.sections.map fun d => { d with level := d.curve.get 0, last := 0 } }
        tck :=
          { s.tck with
            phase := .stopped, period := 0, reference := 0, deadline := none, synthetic := 0, barMark := false
            beatInBar := 0 }
        scn :=
          { s.scn with
            cut := s.scn.lastCut, cutCause := if s.scn.lastCut then some .line else none, cutVoices := 0 }
        reg := { s.reg with slot := none }
        val := { voices := s.val.voices.map Voice.freed, held := [], serial := 0 }
        evq := (purgeForReset s).evq
        stu := hardStatus } := by
  simp only [softReset, softBellows, softExpression, softClock, softSections, setCut, setCutRecord, emptySlot,
    softAllocator, endAllVoices, softStatus, purgeForReset, State.withBlu, State.withExu, State.withTck, State.withScn,
    State.withReg, State.withVal, State.withStu, State.withEvq]
  rfl

/-- Settles O8: the reply is placed first, and the soft reset follows it in the same event. -/
theorem resetRequestSoftResetsThePart : Obligations.ResetRequestSoftResetsThePart := by
  intro s tag rest ho
  have harm : exec .reset s = execReset s := rfl
  rw [harm, execReset, takeRequest_of_offers ho (by simp), if_pos List.length_nil, reply_unchanged, softReset_eq]
  rfl

end Sys2Proof.Machine
end

section
/-! ## Records, frames and the check on the link (R167, R168, R181) -/

namespace Sys2Proof.Machine

/-! ### Records (R181) -/

theorem KeyEntry.bytes_eq (e : KeyEntry) :
    e.bytes =
      [BitVec.ofNat 8 (e.condition.code * 16 + e.cls.code), BitVec.ofNat 8 (e.push.length * 16 + e.pull.length),
        BitVec.ofNat 8 (e.push.getD 0 0), BitVec.ofNat 8 (e.push.getD 1 0), BitVec.ofNat 8 (e.push.getD 2 0),
        BitVec.ofNat 8 (e.push.getD 3 0), BitVec.ofNat 8 (e.pull.getD 0 0), BitVec.ofNat 8 (e.pull.getD 1 0),
        BitVec.ofNat 8 (e.pull.getD 2 0), BitVec.ofNat 8 (e.pull.getD 3 0), BitVec.ofNat 8 e.preset.val] := rfl

/-- A curve's points in their order. -/
theorem curve_toList (v : Vector Nat 9) : v.toList = [v[0], v[1], v[2], v[3], v[4], v[5], v[6], v[7], v[8]] := by
  refine List.ext_getElem (by simp) fun i hi _ => ?_
  have hi : i < 9 := by simpa using hi
  interval_cases i <;> simp

theorem LayerLegal.carried {l : Layer} (h : LayerLegal l) : LayerCarried l := by
  obtain ⟨hwindow, hlimit, hlow, hhigh⟩ := h
  exact ⟨hwindow, hlimit, by omega, by omega⟩

/-! ### The check (R168) -/

/-- The top bit is the one that a shift moves out. -/
theorem checkShift_eq (r : BitVec 16) :
    checkShift r = if r.getLsbD 15 = true then (r <<< 1) ^^^ 0x1021 else r <<< 1 := by
  rw [checkShift, BitVec.msb_eq_getLsbD_last]; rfl

/-- One byte more is taken into the remainder of those before it. -/
theorem checkOf_append (bytes : List Byte) (x : Byte) : checkOf (bytes ++ [x]) = checkByte (checkOf bytes) x := by
  rw [checkOf, List.foldl_append]; rfl

/-! ### Signed fields (R167) -/

/-- Two's complement in 16 bits. -/
theorem byte2s_eq (i : Int) : byte2s i = byte2 (i % 65536).toNat := by
  rw [byte2s, BitVec.toNat_ofInt]; rfl

/-- Settles O54: the records read back as `keyEntryOf_bytes`, `sectionRecordOf_bytes` and `layerOf_bytes` say, and each layout is that of
the record's or frame's parts. -/
theorem recordsSurviveTheLink : Obligations.RecordsSurviveTheLink := by
  unfold Obligations.RecordsSurviveTheLink
  intro b bit
  refine ⟨⟨fun e => keyEntryOf_bytes, fun r => sectionRecordOf_bytes, fun l h => layerOf_bytes h.carried⟩, fun e => ?_,
    fun r => ?_, fun l => ?_, fun f => ⟨rfl, rfl⟩, ⟨rfl, fun bytes x => ?_⟩, fun n => rfl, fun i _ _ => byte2s_eq i⟩
  · obtain ⟨cls, push, pull, preset, condition⟩ := e
    rcases condition with _ | _ | _ | _ <;> exact KeyEntry.bytes_eq _
  · rw [SectionRecord.bytes, curve_toList]; rfl
  · obtain ⟨enabled, mask, lo, hi, transpose, sect, mode, reattack, accent⟩ := l
    simp only [Layer.bytes, byte1, bit_byte]
    cases mode <;> rfl
  · rw [checkOf_append, checkByte, funext checkShift_eq]

end Sys2Proof.Machine
end

section
/-! ## The receiver and its rescan (R170, R171)

A rescan looks at the held bytes in one sweep (`hunt`); R171 says that each arrives anew (`State.arrivals`). The two agree
(`hunt_eq_arrivals`), because a frame abandoned within the sweep is itself rescanned byte by byte before the bytes behind it come. -/

namespace Sys2Proof.Machine

section
variable {s : State} {b x : Byte} {bs held : List Byte} {g : Tick} {r r' : Receiver} {f : StickyFlag}

/-! ### The receiver's state and what does not read it -/

@[simp] theorem setReceiver_receiver : (setReceiver r s).lnk.receiver = r := rfl

@[simp] theorem setReceiver_tick : (setReceiver r s).tick = s.tick := rfl

@[simp] theorem setReceiver_setReceiver : setReceiver r (setReceiver r' s) = setReceiver r s := rfl

theorem setReceiver_of_receiver (h : s.lnk.receiver = r) : setReceiver r s = s := by subst h; rfl

theorem raiseFlag_lnk : (raiseFlag f s).lnk = s.lnk := by rw [raiseFlag_noticesOnly f s]; rfl

theorem offerGeneral_setReceiver (p : Report) : offerGeneral p (setReceiver r s) = setReceiver r (offerGeneral p s) :=
  (apply_ite (setReceiver r) (s.admitsGeneral = true) (pushGeneral p s) s).symm

theorem raiseFlag_setReceiver : raiseFlag f (setReceiver r s) = setReceiver r (raiseFlag f s) := by
  rw [raiseFlag, raiseFlag, apply_ite (setReceiver r), ← offerGeneral_setReceiver]
  rfl

theorem disposeFrame_setReceiver (c : Frame) : disposeFrame c (setReceiver r s) = setReceiver r (disposeFrame c s) := by
  rw [disposeFrame, disposeFrame, apply_ite (setReceiver r), apply_ite (setReceiver r), ← raiseFlag_setReceiver]
  rfl

/-! ### One byte (R170, R171) -/

theorem takeByte_of_hunting (h : s.lnk.receiver = .hunting) (hb : b ≠ 0xD5) : takeByte b false s = s := by
  simp only [takeByte, h, beq_eq_false_iff_ne.mpr hb]
  rfl

theorem takeByte_sync (h : s.lnk.receiver = .hunting) : takeByte 0xD5 false s = setReceiver (.assembling [] s.tick) s := by
  simp [takeByte, h]

theorem takeByte_faulty_of_hunting (h : s.lnk.receiver = .hunting) : takeByte b true s = s := by
  simp [takeByte, h]

theorem takeByte_faulty (h : s.lnk.receiver = .assembling held g) : takeByte b true s = abandon .frame held s := by
  simp [takeByte, h]

/-- The bytes held are those of a LEN above 48, which has just come. -/
def LongLen (held : List Byte) : Prop := held.length = 3 ∧ 48 < byteAt held 2

theorem takeByte_longLen (h : s.lnk.receiver = .assembling held g) (hlong : LongLen (held ++ [b])) :
    takeByte b false s = abandon .length (held ++ [b]) s := by
  simp only [takeByte, h]; exact if_pos hlong

theorem takeByte_grows (h : s.lnk.receiver = .assembling held g) (hlong : ¬ LongLen (held ++ [b])) :
    takeByte b false s = setReceiver (.assembling (held ++ [b]) s.tick) s := by
  simp only [takeByte, h]; exact if_neg hlong

/-! ### A frame complete or not (R170) -/

theorem completeFrame_of_hunting (h : s.lnk.receiver = .hunting) : completeFrame s = s := by
  simp [completeFrame, h]

theorem completeFrame_of_incomplete (h : s.lnk.receiver = .assembling held g) (hc : frameIsComplete held = false) :
    completeFrame s = s := by
  simp [completeFrame, h, hc]

theorem completeFrame_of_agrees (h : s.lnk.receiver = .assembling held g) (hc : frameIsComplete held = true)
    (ha : checkAgrees held = true) : completeFrame s = setReceiver .hunting (disposeFrame (frameOf held) s) := by
  simp [completeFrame, h, hc, ha]

theorem completeFrame_of_disagrees (h : s.lnk.receiver = .assembling held g) (hc : frameIsComplete held = true)
    (ha : checkAgrees held = false) : completeFrame s = abandon .check held s := by
  simp [completeFrame, h, hc, ha]

theorem frameIsComplete_of_short (h : held.length < 3) : frameIsComplete held = false := by
  simp [frameIsComplete]; omega

theorem frameIsComplete_of_lt (h : held.length < 5 + byteAt held 2) : frameIsComplete held = false := by
  simp [frameIsComplete]; omega

/-- A rescan leaves no complete frame behind. -/
theorem completeFrame_hunt (n : Nat) (bs : List Byte) (s : State) : completeFrame (hunt n bs s) = hunt n bs s := by
  induction n generalizing bs s with
  | zero => rfl
  | succ n ih =>
    cases bs with
    | nil => rfl
    | cons b bs =>
      unfold hunt; dsimp only
      split_ifs with hb hshort hlen hlt
      · exact ih _ _
      · exact completeFrame_of_incomplete rfl (frameIsComplete_of_short hshort)
      · exact ih _ _
      · exact completeFrame_of_incomplete rfl (frameIsComplete_of_lt hlt)
      · exact ih _ _
      · exact ih _ _

/-! ### Bytes one by one -/

theorem arrivals_cons : State.arrivals (b :: bs) s = State.arrivals bs (completeFrame (takeByte b false s)) := rfl

theorem arrivals_append (bs cs : List Byte) : State.arrivals (bs ++ cs) s = State.arrivals cs (State.arrivals bs s) :=
  List.foldl_append

/-- Without a 0xD5 among them, bytes that come in HUNTING change nothing. -/
theorem arrivals_of_no_sync (h : s.lnk.receiver = .hunting) (hbs : ∀ x ∈ bs, x ≠ 0xD5) : State.arrivals bs s = s := by
  induction bs with
  | nil => rfl
  | cons b bs ih =>
    rw [List.forall_mem_cons] at hbs
    rw [arrivals_cons, takeByte_of_hunting h hbs.1, completeFrame_of_hunting h, ih hbs.2]

/-- A frame grows with every byte that brings no LEN above 48 and does not complete it. -/
theorem arrivals_take (j : Nat) (h : ∀ i ≤ j, ¬ LongLen (bs.take i) ∧ frameIsComplete (bs.take i) = false) :
    State.arrivals (bs.take j) (setReceiver (.assembling [] s.tick) s) =
      setReceiver (.assembling (bs.take j) s.tick) s := by
  induction j with
  | zero => rfl
  | succ j ih =>
    have ih := ih fun i hi => h i (hi.trans j.le_succ)
    by_cases hj : j < bs.length
    · obtain ⟨hlong, hincomplete⟩ := h (j + 1) le_rfl
      rw [List.take_succ_eq_append_getElem hj] at hlong hincomplete ⊢
      rw [arrivals_append, ih, arrivals_cons, takeByte_grows rfl hlong, setReceiver_setReceiver,
        completeFrame_of_incomplete rfl hincomplete]
      rfl
    · rw [List.take_of_length_le (by omega)] at ih ⊢
      exact ih

theorem byteAt_take {i n : Nat} (h : n < i) : byteAt (bs.take i) n = byteAt bs n := by
  simp [byteAt, h]

end

/-! ### The rescan (R171) -/

theorem rescanned_eq (f : StickyFlag) (held : List Byte) (s : State) :
    s.rescanned f held = State.arrivals held (setReceiver .hunting (raiseFlag f s)) := by
  rw [State.rescanned, setReceiver, raiseFlag_lnk]; rfl

theorem rescanned_setReceiver (f : StickyFlag) (held : List Byte) (r : Receiver) (s : State) :
    (setReceiver r s).rescanned f held = s.rescanned f held := by
  rw [rescanned_eq, rescanned_eq, raiseFlag_setReceiver, setReceiver_setReceiver]

/-- A sweep over these bytes is their arrival, one by one, in HUNTING. -/
def HuntsAsArrivals (bs : List Byte) : Prop :=
  ∀ (n : Nat) (s : State), bs.length ≤ n → hunt n bs s = State.arrivals bs (setReceiver .hunting s)

section
variable {s : State} {b : Byte} {bs held : List Byte} {r : Receiver} {f : StickyFlag} {n : Nat}

theorem abandon_of_huntsAsArrivals (h : HuntsAsArrivals held) : abandon f held s = s.rescanned f held := by
  rw [abandon, h _ _ le_rfl, rescanned_eq]

/-- Bytes of a frame whose LEN is at most 48, too few to complete it. -/
theorem grows_of_lt (hlen : byteAt bs 2 ≤ 48) {i : Nat} (hi : i < 5 + byteAt bs 2) :
    ¬ LongLen (bs.take i) ∧ frameIsComplete (bs.take i) = false := by
  have hle := List.length_take_le i bs
  by_cases h3 : i < 3
  · exact ⟨fun h => by have := h.1; omega, frameIsComplete_of_short (by omega)⟩
  · have h2 : byteAt (bs.take i) 2 = byteAt bs 2 := byteAt_take (by omega)
    exact ⟨fun h => by have := h.2; omega, frameIsComplete_of_lt (by omega)⟩

theorem grows_of_short {i : Nat} (hi : i < 3) :
    ¬ LongLen (bs.take i) ∧ frameIsComplete (bs.take i) = false := by
  have hle := List.length_take_le i bs
  exact ⟨fun h => by have := h.1; omega, frameIsComplete_of_short (by omega)⟩

/-- A frame behind its 0xD5 that the bytes do not complete is being assembled when all have come. -/
theorem arrivals_incomplete
    (h : ∀ i ≤ bs.length, ¬ LongLen (bs.take i) ∧ frameIsComplete (bs.take i) = false) :
    State.arrivals bs (setReceiver (.assembling [] s.tick) s) = setReceiver (.assembling bs s.tick) s := by
  have hall := arrivals_take (s := s) bs.length h
  rwa [List.take_length] at hall

/-- A frame behind its 0xD5 whose third byte is a LEN above 48: the three bytes are rescanned, then the others come. -/
theorem arrivals_longLen (h3 : 3 ≤ bs.length) (hlen : 48 < byteAt bs 2) (hheld : HuntsAsArrivals (bs.take 3)) :
    State.arrivals bs (setReceiver (.assembling [] s.tick) s) =
      State.arrivals bs (setReceiver .hunting (raiseFlag .length s)) := by
  have hthree : bs.take 3 = bs.take 2 ++ [bs[2]] := List.take_succ_eq_append_getElem h3
  have hlong : LongLen (bs.take 2 ++ [bs[2]]) := by
    rw [← hthree]
    exact ⟨List.length_take_of_le h3, by rwa [byteAt_take (by decide)]⟩
  have habandoned : completeFrame (takeByte bs[2] false (setReceiver (.assembling (bs.take 2) s.tick) s)) =
      State.arrivals (bs.take 3) (setReceiver .hunting (raiseFlag .length s)) := by
    rw [takeByte_longLen rfl hlong, abandon, completeFrame_hunt, ← abandon, ← hthree, abandon_of_huntsAsArrivals hheld,
      rescanned_setReceiver, rescanned_eq]
  calc State.arrivals bs (setReceiver (.assembling [] s.tick) s)
    _ = State.arrivals (bs.take 2 ++ bs[2] :: bs.drop 3) (setReceiver (.assembling [] s.tick) s) := by
      rw [← List.drop_eq_getElem_cons h3, List.take_append_drop]
    _ = State.arrivals (bs.drop 3) (State.arrivals (bs.take 3) (setReceiver .hunting (raiseFlag .length s))) := by
      rw [arrivals_append, arrivals_take 2 fun i hi => grows_of_short (by omega), arrivals_cons, habandoned]
    _ = State.arrivals bs (setReceiver .hunting (raiseFlag .length s)) := by
      rw [← arrivals_append, List.take_append_drop]

/-- A frame behind its 0xD5 that the bytes complete: it is completed with its last byte, then the others come. -/
theorem arrivals_complete (hlen : byteAt bs 2 ≤ 48) (hle : 5 + byteAt bs 2 ≤ bs.length) :
    State.arrivals bs (setReceiver (.assembling [] s.tick) s) =
      State.arrivals (bs.drop (5 + byteAt bs 2))
        (completeFrame (setReceiver (.assembling (bs.take (5 + byteAt bs 2)) s.tick) s)) := by
  obtain ⟨m, hm⟩ : ∃ m, 5 + byteAt bs 2 = m + 1 := ⟨4 + byteAt bs 2, by omega⟩
  rw [hm] at hle ⊢
  have hlast : bs.take (m + 1) = bs.take m ++ [bs[m]] := List.take_succ_eq_append_getElem hle
  have hlong : ¬ LongLen (bs.take m ++ [bs[m]]) := fun h => by
    have := h.1
    rw [← hlast, List.length_take_of_le hle] at this
    omega
  calc State.arrivals bs (setReceiver (.assembling [] s.tick) s)
    _ = State.arrivals (bs.take m ++ bs[m] :: bs.drop (m + 1)) (setReceiver (.assembling [] s.tick) s) := by
      rw [← List.drop_eq_getElem_cons hle, List.take_append_drop]
    _ = _ := by
      rw [arrivals_append, arrivals_take m fun i hi => grows_of_lt hlen (by omega), arrivals_cons, takeByte_grows rfl hlong,
        setReceiver_setReceiver, ← hlast]
      rfl

/-- What the sweep makes of the bytes behind a 0xD5 is what their arrival makes of them, if that holds of fewer bytes. -/
theorem hunt_sync (hn : bs.length ≤ n) (ih : ∀ cs : List Byte, cs.length ≤ bs.length → HuntsAsArrivals cs) :
    hunt (n + 1) (0xD5 :: bs) s = State.arrivals bs (setReceiver (.assembling [] s.tick) s) := by
  rw [hunt, if_neg (by simp)]
  split_ifs with hshort hlen hlt
  · exact (arrivals_incomplete fun i hi => grows_of_short (by omega)).symm
  · rw [arrivals_longLen (by omega) hlen (ih _ (List.length_take_le' ..)), ih bs le_rfl n _ hn]
  · exact (arrivals_incomplete fun i hi => grows_of_lt (by omega) (by omega)).symm
  have hcomplete : frameIsComplete (bs.take (5 + byteAt bs 2)) = true := by
    have h2 : byteAt (bs.take (5 + byteAt bs 2)) 2 = byteAt bs 2 := byteAt_take (by omega)
    rw [frameIsComplete, h2, List.length_take_of_le (by omega), beq_self_eq_true, Bool.and_true, decide_eq_true_eq]
    omega
  rw [arrivals_complete (by omega) (by omega)]
  dsimp only
  split
  next ha =>
    rw [completeFrame_of_agrees rfl hcomplete ha, disposeFrame_setReceiver, setReceiver_setReceiver,
      ih _ (by simp) n _ (by simp; omega)]
  next ha =>
    rw [completeFrame_of_disagrees rfl hcomplete (by simpa using ha),
      abandon_of_huntsAsArrivals (ih _ (List.length_take_le' ..)), rescanned_setReceiver, rescanned_eq, ← arrivals_append,
      List.take_append_drop, ih bs le_rfl n _ hn]

end

/-- R171: a rescan takes the held bytes anew from HUNTING, as though each arrived now. -/
theorem hunt_eq_arrivals (bs : List Byte) : HuntsAsArrivals bs := by
  induction h : bs.length using Nat.strong_induction_on generalizing bs with
  | h k ih =>
    subst h
    intro n s hn
    cases bs with
    | nil => cases n <;> rfl
    | cons b bs =>
      rw [List.length_cons] at hn
      obtain ⟨n, rfl⟩ : ∃ m, n = m + 1 := ⟨n - 1, by omega⟩
      have hfewer : ∀ cs : List Byte, cs.length ≤ bs.length → HuntsAsArrivals cs := fun cs hcs =>
        ih _ (Nat.lt_succ_of_le hcs) cs rfl
      rw [arrivals_cons]
      by_cases hb : b = 0xD5
      · subst hb
        rw [takeByte_sync rfl, setReceiver_setReceiver, completeFrame_of_incomplete rfl rfl, hunt_sync (by omega) hfewer]
        rfl
      · rw [takeByte_of_hunting rfl hb, completeFrame_of_hunting rfl, hunt, if_pos hb, hfewer bs le_rfl n s (by omega)]

theorem abandon_eq (f : StickyFlag) (held : List Byte) (s : State) : abandon f held s = s.rescanned f held :=
  abandon_of_huntsAsArrivals (hunt_eq_arrivals held)

/-! ### The commands -/

section
variable {s : State} {b : Byte} {held : List Byte} {g : Tick} {f : StickyFlag}

theorem exec_byteArrival (hr : s.inReset = none) (low : Bool) :
    exec (.byteArrival b low) s = .next (takeByte b low (completeFrame s)) := by
  have harm : exec (.byteArrival b low) s = execByteArrival b low s := rfl
  rw [harm, execByteArrival, whileRunning_of_running hr]

theorem exec_frameComplete (hr : s.inReset = none) : exec .frameComplete s = .next (completeFrame s) := by
  have harm : exec .frameComplete s = execFrameComplete s := rfl
  rw [harm, execFrameComplete, whileRunning_of_running hr]

/-- GAP abandons a frame that still wants bytes when 21 ticks have passed, and does nothing before (R171; log entry 4). -/
theorem exec_gap (hr : s.inReset = none) (h : s.lnk.receiver = .assembling held g) (hc : frameIsComplete held = false) :
    exec .gap s = .next (if 21 ≤ (s.tick - g).toInt then s.rescanned .gap held else s) := by
  have harm : exec .gap s = execGap s := rfl
  have hdue : s.gapDue = decide (21 ≤ (s.tick - g).toInt) := by simp [State.gapDue, h, hc, wrapDiff]
  have hheld : s.heldBytes = held := by simp [State.heldBytes, h]
  rw [harm, execGap, whileRunning_of_running hr, hdue, hheld, abandon_eq]
  simp only [decide_eq_true_eq]

/-- A frame abandoned with no 0xD5 held leaves the receiver HUNTING, and an occurrence of its flag. -/
theorem rescanned_of_no_sync (hheld : ∀ x ∈ held, x ≠ 0xD5) :
    s.rescanned f held = setReceiver .hunting (raiseFlag f s) := by
  rw [rescanned_eq, arrivals_of_no_sync rfl hheld]

/-- An occurrence that leaves the receiver HUNTING touches receiver, flags and queue alone. -/
theorem setReceiver_raiseFlag_noticesOnly (f : StickyFlag) (s : State) :
    setReceiver .hunting (raiseFlag f s) =
      { s with
        lnk := { s.lnk with receiver := .hunting }
        stu := (setReceiver .hunting (raiseFlag f s)).stu
        evq := (setReceiver .hunting (raiseFlag f s)).evq } := by
  have h := raiseFlag_noticesOnly f s
  rw [NoticesOnly] at h
  rw [h]; rfl

/-- What is left of a frame abandoned with no 0xD5 held (R171, R185). -/
theorem exists_rescanned_of_no_sync (hheld : ∀ x ∈ held, x ≠ 0xD5) :
    ∃ t, (Host.Outcome.next (s.rescanned f held) : Result) = .next t ∧
      t = { s with lnk := { s.lnk with receiver := .hunting }, stu := t.stu, evq := t.evq } ∧
      t.stu = (s.stu.tally f).setFlag f :=
  ⟨_, congrArg _ (rescanned_of_no_sync hheld), setReceiver_raiseFlag_noticesOnly f s, raiseFlag_stu f s⟩

end

/-- Settles O48: one lemma of `takeByte` for each kind of byte, and `hunt_eq_arrivals` for the rescan. -/
theorem receiverTakesBytes : Obligations.ReceiverTakesBytes := by
  intro s b hr
  simp only [exec_byteArrival hr]
  refine ⟨fun h => ?_, fun held gapTime h hc => ?_⟩
  · rw [completeFrame_of_hunting h]
    exact ⟨fun hb => by rw [hb, takeByte_sync h]; rfl, fun hb => by rw [takeByte_of_hunting h hb],
      by rw [takeByte_faulty_of_hunting h]⟩
  have hthird : (held ++ [b]).length = 3 → byteAt (held ++ [b]) 2 = b.toNat := fun hlen => by
    have h2 : held.length = 2 := by simpa using hlen
    simp [byteAt, h2]
  rw [completeFrame_of_incomplete h hc, takeByte_faulty h, exec_gap hr h hc, abandon_eq]
  refine ⟨fun hshort => ?_, fun hlen hlong => ?_, rfl, fun hgap => by rw [if_pos hgap],
    fun hheld => ⟨exists_rescanned_of_no_sync hheld, fun hgap => ?_⟩, fun hgap => by rw [if_neg (not_le.mpr hgap)]⟩
  · rw [takeByte_grows h fun ⟨hlen, hlong⟩ => hshort ⟨hlen, hthird hlen ▸ hlong⟩]; rfl
  · rw [takeByte_longLen h ⟨hlen, (hthird hlen).symm ▸ hlong⟩, abandon_eq]
    exact ⟨rfl, exists_rescanned_of_no_sync⟩
  · rw [if_pos hgap]; exact exists_rescanned_of_no_sync hheld

end Sys2Proof.Machine
end

section
/-! ## Complete frames (R167, R168, R171, R172) -/

namespace Sys2Proof.Machine

/-! ### The held bytes of a whole frame (R167) -/

section
variable {f : Frame} {c1 c0 : Byte}

/-- The frame's LEN, the third byte held. -/
theorem byteAt_body_append (hlen : f.payload.length ≤ 48) (cs : List Byte) :
    byteAt (f.body ++ cs) 2 = f.payload.length := toNat_byte (by omega)

theorem Frame.body_length (f : Frame) : f.body.length = 3 + f.payload.length := by simp [body]; omega

theorem frameIsComplete_body_append (hlen : f.payload.length ≤ 48) : frameIsComplete (f.body ++ [c1, c0]) = true := by
  rw [frameIsComplete_iff]
  have h2 : ((f.body ++ [c1, c0]).getD 2 0).toNat = f.payload.length := byteAt_body_append hlen _
  rw [completeBytes, h2, List.length_append, f.body_length, List.length_cons, List.length_singleton]
  omega

/-- The bytes behind the payload, as a number. -/
theorem wordAt_body_append : wordAt (f.body ++ [c1, c0]) (3 + f.payload.length) = c1.toNat * 256 + c0.toNat := by
  rw [← f.body_length]
  simp [wordAt, byteAt]

/-- Two bytes are those of a number below 65536 just when they make it. -/
theorem byte2_eq_iff {n : Nat} (h : n < 65536) : byte2 n = [c1, c0] ↔ c1.toNat * 256 + c0.toNat = n := by
  have h1 := c1.isLt
  have h0 := c0.isLt
  simp only [byte2, List.cons.injEq, and_true, ← BitVec.toNat_inj, BitVec.toNat_ofNat]
  omega

/-- The check agrees just when the two bytes behind the body are its own (R168). -/
theorem checkAgrees_body_append (hlen : f.payload.length ≤ 48) :
    checkAgrees (f.body ++ [c1, c0]) = true ↔ byte2 (checkOf f.body).toNat = [c1, c0] := by
  rw [checkAgrees, byteAt_body_append hlen, wordAt_body_append, List.take_left' f.body_length, beq_iff_eq,
    byte2_eq_iff (checkOf f.body).isLt]

theorem frameOf_body_append (hlen : f.payload.length ≤ 48) : frameOf (f.body ++ [c1, c0]) = f := by
  rw [frameOf, byteAt_body_append hlen]
  simp [Frame.body]

end

/-! ### What becomes of the frame (R172) -/

section
variable {s : State} {f : Frame}

theorem disposeFrame_of_room (hk : f.kind.toNat ≤ 0x3F) (h : s.lnk.inbound.length < 4) :
    disposeFrame f s = s.withLnk { s.lnk with inbound := s.lnk.inbound ++ [f] } := by
  simp [disposeFrame, inRequestSpace, hk, h]

theorem disposeFrame_of_full (hk : f.kind.toNat ≤ 0x3F) (h : 4 ≤ s.lnk.inbound.length) :
    disposeFrame f s = raiseFlag .overrun s := by
  simp [disposeFrame, inRequestSpace, hk, h]

theorem disposeFrame_of_otherKind (hk : 0x3F < f.kind.toNat) : disposeFrame f s = s := by
  simp [disposeFrame, inRequestSpace, hk]

end

/-- Settles O49: with the frame's own check `disposeFrame` decides by KIND and room; with another the frame is abandoned. -/
theorem completeFrameIsQueuedOrDropped : Obligations.CompleteFrameIsQueuedOrDropped := by
  intro s f gapTime hr hlen
  rw [exec_frameComplete hr]
  refine ⟨fun h => ?_, fun c1 c0 hne h => ?_⟩
  · have hagrees : checkAgrees f.line.tail = true := (checkAgrees_body_append hlen).mpr rfl
    have hframe : frameOf f.line.tail = f := frameOf_body_append hlen
    rw [completeFrame_of_agrees h (frameIsComplete_body_append hlen) hagrees, hframe]
    refine ⟨fun hk hroom => ?_, fun hk hfull => ?_, fun hk => ?_⟩
    · rw [disposeFrame_of_room hk hroom]; rfl
    · rw [disposeFrame_of_full hk hfull]
      exact ⟨_, rfl, setReceiver_raiseFlag_noticesOnly .overrun s, raiseFlag_stu .overrun s⟩
    · rw [disposeFrame_of_otherKind hk]; rfl
  · have hdisagrees : checkAgrees (f.body ++ [c1, c0]) = false :=
      Bool.eq_false_iff.mpr fun ha => hne ((checkAgrees_body_append hlen).mp ha)
    rw [completeFrame_of_disagrees h (frameIsComplete_body_append hlen) hdisagrees, abandon_eq]
    exact ⟨rfl, exists_rescanned_of_no_sync⟩

end Sys2Proof.Machine
end

section
/-! ## ClearFlags (R188) -/

namespace Sys2Proof.Machine

/-- The cleared unit with each counter's bit of the mask written out (R181). -/
theorem StatusUnit.clear_eq (mask : Byte) (u : StatusUnit) :
    u.clear mask =
      { sticky := u.sticky &&& ~~~mask
        frameCount := if mask.getLsbD 1 = true then 0 else u.frameCount
        lengthCount := if mask.getLsbD 2 = true then 0 else u.lengthCount
        gapCount := if mask.getLsbD 3 = true then 0 else u.gapCount
        checkCount := if mask.getLsbD 4 = true then 0 else u.checkCount
        overrunCount := if mask.getLsbD 5 = true then 0 else u.overrunCount
        dropAttackCount := if mask.getLsbD 6 = true then 0 else u.dropAttackCount } := rfl

theorem clearFlags_eq (mask : Byte) (s : State) :
    clearFlags [mask] s =
      { state := s.withStu (s.stu.clear mask), status := .done, data := [s.stu.sticky &&& ~~~mask] } := rfl

/-- Settles O52: the owner clears the Status Unit by the mask, and the reply around it changes the link alone. -/
theorem clearFlagsClearsTheNamedFlags : Obligations.ClearFlagsClearsTheNamedFlags := by
  intro s tag mask rest ho
  have harm : exec .clearFlags s = serve 0x13 1 clearFlags s := rfl
  rw [harm, serve_of_offers (len := 1) ho rfl, clearFlags_eq, StatusUnit.clear_eq]
  rfl

end Sys2Proof.Machine
end


section
/-! ## The queue of commands (log entry 20) -/

namespace Sys2Proof.Machine

/-- Beside `step_of_empty`: with a command at the front of the queue the step carries it out on the state with the queue's rest. -/
theorem step_of_front {s : State} {c : Instr} {rest : List Instr} (h : s.pending = c :: rest) :
    step s = exec c { s with pending := rest } := by unfold step; rw [h]

/-- Settles O1: the queue that the statement builds has the command at its front, and its rest put in is the queue's rest. -/
theorem stepTakesTheFrontCommand : Obligations.StepTakesTheFrontCommand := by
  intro c rest s
  exact step_of_front (s := { s with pending := c :: rest }) rfl

end Sys2Proof.Machine
end
